-- ==== Sys2Proof/Word.lean ====
section
/-! DEFINITION. The plain values of the block: bytes, and the names of channels, waveform slots and
noise voices (spec 00_scope.md R5, R6; 10_state.md R21, R35). An address is a plain `Nat`; that it has ADDR_W bits is
checked where it enters the machine (30_encoding.md R90). -/

namespace Sys2Proof

/-- A register byte or a sound-RAM byte (00_scope.md R6). -/
abbrev Byte := BitVec 8


/-- The five melodic channels CH1..CH5 (10_state.md R21). -/
inductive Mel where
  | ch1 | ch2 | ch3 | ch4 | ch5
  deriving DecidableEq, Repr

/-- Place of a melodic channel in a table of five. -/
def Mel.ix : Mel → Fin 5
  | .ch1 => 0 | .ch2 => 1 | .ch3 => 2 | .ch4 => 3 | .ch5 => 4

/-- The six logical channels: CH1..CH5 melodic, CH6 the noise channel (10_state.md R21). -/
inductive Chan where
  | mel (m : Mel)
  | noise
  deriving DecidableEq, Repr

/-- Place of a channel in a table of six: channel x of the spec stands at x - 1. -/
def Chan.ix : Chan → Fin 6
  | .mel .ch1 => 0 | .mel .ch2 => 1 | .mel .ch3 => 2 | .mel .ch4 => 3 | .mel .ch5 => 4 | .noise => 5

/-- CH5, the full channel (44_sweep.md). -/
abbrev Chan.full : Chan := .mel .ch5

/-- A waveform slot 0..4 (10_state.md R30). -/
abbrev Slot := Fin 5

/-- A noise voice index 0..7 (10_state.md R33). -/
abbrev NoiseIx := Fin 8

end Sys2Proof
end

