-- ==== Sys2Proof/Config.lean ====
section
/-! DEFINITION. The configuration record (spec 00_scope.md R5, rows marked parameter; 92_eei_decisions.md, open
parameters) and the free values the spec leaves open. The record's default values stand in Machine/AddressMap.lean. -/

namespace Sys2Proof

/-- `AddrMap`: the address of every register and region (30_encoding.md R92). Tables of six are indexed by channel,
tables of five by slot (`wave`) or by melodic channel (`ram`). -/
structure AddrMap where
  /-- A_WAVE(k): first address of slot k's sound-RAM region. -/
  wave : Vector Nat 5
  /-- A_MOD: first address of the modulation-data region. -/
  modFirst : Nat
  /-- Number of byte addresses in the modulation-data region. -/
  modBytes : Nat
  /-- A_INT(x). -/
  int : Vector Nat 6
  /-- A_LRV(x). -/
  lrv : Vector Nat 6
  /-- A_FQL(x). -/
  fql : Vector Nat 6
  /-- A_FQH(x). -/
  fqh : Vector Nat 6
  /-- A_EV0(x). -/
  ev0 : Vector Nat 6
  /-- A_EV1(x). -/
  ev1 : Vector Nat 6
  /-- A_RAM(x), x = 1..5. -/
  ram : Vector Nat 5
  /-- A_SWP. -/
  swp : Nat
  /-- A_SSTOP. -/
  sstop : Nat
  /-- First address of the sound register range. By R96 and R261 an undefined address does nothing inside the range
  and outside it, so no meaning depends on the range. -/
  rangeFirst : Nat
  /-- Last address of the sound register range. -/
  rangeLast : Nat
  deriving DecidableEq, Repr

/-- The parameters of the block (00_scope.md R5). -/
structure Config where
  /-- ADDR_W: width of a notified address in bits. -/
  addrW : Nat
  /-- AddrMap. -/
  map : AddrMap
  /-- WAVE_STRIDE: bytes between consecutive samples of a slot. -/
  waveStride : Nat
  /-- MODDATA_DIRTY_MASK: bit k says whether a modulation-data write marks slot k. -/
  modDirtyMask : BitVec 5
  /-- DIV16_FLOOR: whether the /16 of the envelope durations truncates. -/
  div16Floor : Bool
  /-- NOISE_PATTERN[0..7] (10_state.md R32): read by no rule. -/
  noisePattern : Vector (List Byte) 8
  deriving DecidableEq, Repr

/-- NOISE_LEN[n] (00_scope.md R5): the length of pattern n. DEDUCED, log 18. -/
def Config.noiseLen (cfg : Config) (n : NoiseIx) : Nat := (cfg.noisePattern.get n).length

/-- Bytes of a waveform region: [A_WAVE(k), A_WAVE(k) + 0x7F] (30_encoding.md R92, R93). -/
def waveBytes : Nat := 0x80

/-- FREE VALUE (00_scope.md R10; 93_implementation_defined.md U9): what get_volume answers at the n-th free draw.
Any value of 0..255; log 4. -/
opaque Config.freeVol : Nat → Fin 256

/-- FREE VALUE (00_scope.md R10; 93_implementation_defined.md U9): what get_frequency answers at the n-th free draw.
Any non-negative rational; log 4. -/
opaque Config.freeFreq : Nat → NNRat

/-- FREE VALUE (10_state.md R32; 93_implementation_defined.md U11): the contents and lengths of the eight noise
patterns, which the spec does not give; log 18. -/
opaque Config.openNoisePattern : Vector (List Byte) 8

/-- FREE VALUE (70_reset_and_hazards.md R321; 93_implementation_defined.md U10): the contents of a melodic voice's
buffer when the backend creates it; log 18. -/
opaque Config.openMelodicBuffer : Mel → Vector Byte 32

/-- FREE VALUE (70_reset_and_hazards.md R321; 93_implementation_defined.md U10): a voice's frequency in Hz when the backend
creates it, by voice number; log 18. -/
opaque Config.openVoiceFrequency : Fin 13 → NNRat

/-- FREE VALUE (70_reset_and_hazards.md R321; 93_implementation_defined.md U10): a voice's volume when the backend creates
it, by voice number; log 18. -/
opaque Config.openVoiceVolume : Fin 13 → Fin 256

/-- FREE VALUE (70_reset_and_hazards.md R321; 93_implementation_defined.md U10): a voice's pan when the backend creates it,
by voice number; log 18. -/
opaque Config.openVoicePan : Fin 13 → Fin 256

/-- FREE VALUE (70_reset_and_hazards.md R321): a voice's playback position when the backend creates it, by voice number;
log 18. -/
opaque Config.openVoicePosition : Fin 13 → Nat

end Sys2Proof
end

