-- ==== Sys2Proof/Syntax.lean ====
section
/-! DEFINITION. The instructions: one constructor per row of spec/opcode_table.json (30_encoding.md R94). An instruction
is a register-write notification; the notified address selects it (R90, R93). Register rows have no operand: their
operands are bytes of memory (R91). The rows that cover many addresses carry what tells those addresses apart, which
no operation reads; log 21. -/

namespace Sys2Proof

/-- A decoded notification. -/
inductive Instr where
  /-- WAVE0: a write landed in slot 0's sound-RAM region (40_waveform_store.md R130), `off` bytes into it. -/
  | wave0 (off : Nat)
  /-- WAVE1: a write landed in slot 1's sound-RAM region (40_waveform_store.md R130), `off` bytes into it. -/
  | wave1 (off : Nat)
  /-- WAVE2: a write landed in slot 2's sound-RAM region (40_waveform_store.md R130), `off` bytes into it. -/
  | wave2 (off : Nat)
  /-- WAVE3: a write landed in slot 3's sound-RAM region (40_waveform_store.md R130), `off` bytes into it. -/
  | wave3 (off : Nat)
  /-- WAVE4: a write landed in slot 4's sound-RAM region (40_waveform_store.md R130), `off` bytes into it. -/
  | wave4 (off : Nat)
  /-- MODDATA: a write landed in the modulation-data region (40_waveform_store.md R131), `off` bytes into it. -/
  | moddata (off : Nat)
  /-- S1INT: CH1's enable/interval register (41_channel_enable.md R150). -/
  | s1int
  /-- S2INT: CH2's enable/interval register (41_channel_enable.md R150). -/
  | s2int
  /-- S3INT: CH3's enable/interval register (41_channel_enable.md R150). -/
  | s3int
  /-- S4INT: CH4's enable/interval register (41_channel_enable.md R150). -/
  | s4int
  /-- S5INT: CH5's enable/interval register (41_channel_enable.md R150). -/
  | s5int
  /-- S6INT: CH6's enable/interval register (41_channel_enable.md R155). -/
  | s6int
  /-- S1LRV: CH1's left/right level register (42_volume_pan.md R174). -/
  | s1lrv
  /-- S2LRV: CH2's left/right level register (42_volume_pan.md R174). -/
  | s2lrv
  /-- S3LRV: CH3's left/right level register (42_volume_pan.md R174). -/
  | s3lrv
  /-- S4LRV: CH4's left/right level register (42_volume_pan.md R174). -/
  | s4lrv
  /-- S5LRV: CH5's left/right level register (42_volume_pan.md R174). -/
  | s5lrv
  /-- S6LRV: CH6's left/right level register (42_volume_pan.md R174). -/
  | s6lrv
  /-- S1FQL: CH1's frequency low byte (46_frequency.md R247). -/
  | s1fql
  /-- S2FQL: CH2's frequency low byte (46_frequency.md R247). -/
  | s2fql
  /-- S3FQL: CH3's frequency low byte (46_frequency.md R247). -/
  | s3fql
  /-- S4FQL: CH4's frequency low byte (46_frequency.md R247). -/
  | s4fql
  /-- S5FQL: CH5's frequency low byte (46_frequency.md R247). -/
  | s5fql
  /-- S6FQL: CH6's frequency low byte (46_frequency.md R247). -/
  | s6fql
  /-- S1FQH: CH1's frequency high byte (46_frequency.md R248). -/
  | s1fqh
  /-- S2FQH: CH2's frequency high byte (46_frequency.md R248). -/
  | s2fqh
  /-- S3FQH: CH3's frequency high byte (46_frequency.md R248). -/
  | s3fqh
  /-- S4FQH: CH4's frequency high byte (46_frequency.md R248). -/
  | s4fqh
  /-- S5FQH: CH5's frequency high byte (46_frequency.md R248). -/
  | s5fqh
  /-- S6FQH: CH6's frequency high byte (46_frequency.md R248). -/
  | s6fqh
  /-- S1EV0: CH1's envelope register 0 (43_envelope.md R193). -/
  | s1ev0
  /-- S2EV0: CH2's envelope register 0 (43_envelope.md R193). -/
  | s2ev0
  /-- S3EV0: CH3's envelope register 0 (43_envelope.md R193). -/
  | s3ev0
  /-- S4EV0: CH4's envelope register 0 (43_envelope.md R193). -/
  | s4ev0
  /-- S5EV0: CH5's envelope register 0 (43_envelope.md R193). -/
  | s5ev0
  /-- S6EV0: CH6's envelope register 0 (43_envelope.md R193). -/
  | s6ev0
  /-- S1EV1: CH1's envelope register 1 (43_envelope.md R194). -/
  | s1ev1
  /-- S2EV1: CH2's envelope register 1 (43_envelope.md R194). -/
  | s2ev1
  /-- S3EV1: CH3's envelope register 1 (43_envelope.md R194). -/
  | s3ev1
  /-- S4EV1: CH4's envelope register 1 (43_envelope.md R194). -/
  | s4ev1
  /-- S5EV1: CH5's envelope register 1 (44_sweep.md R215). -/
  | s5ev1
  /-- S6EV1: CH6's envelope register 1 (45_noise_select.md R232). -/
  | s6ev1
  /-- S1RAM: CH1's RAM-pointer register (40_waveform_store.md R133). -/
  | s1ram
  /-- S2RAM: CH2's RAM-pointer register (40_waveform_store.md R133). -/
  | s2ram
  /-- S3RAM: CH3's RAM-pointer register (40_waveform_store.md R133). -/
  | s3ram
  /-- S4RAM: CH4's RAM-pointer register (40_waveform_store.md R133). -/
  | s4ram
  /-- S5RAM: CH5's RAM-pointer register (40_waveform_store.md R133). -/
  | s5ram
  /-- S5SWP: CH5's sweep-control byte (44_sweep.md R216). -/
  | s5swp
  /-- SSTOP: global stop (47_global.md R260). -/
  | sstop
  /-- UNDEF: address `a` is neither in a region nor a register (47_global.md R261). -/
  | undef (a : Nat)
  deriving DecidableEq, Repr

/-- The WAVEk row of slot k, `off` bytes into its region. -/
def Instr.waveOf (k : Slot) (off : Nat) : Instr :=
  match k with
  | 0 => .wave0 off
  | 1 => .wave1 off
  | 2 => .wave2 off
  | 3 => .wave3 off
  | 4 => .wave4 off

/-- The SxINT row of channel x. -/
def Instr.intOf : Chan → Instr
  | .mel .ch1 => .s1int
  | .mel .ch2 => .s2int
  | .mel .ch3 => .s3int
  | .mel .ch4 => .s4int
  | .mel .ch5 => .s5int
  | .noise => .s6int

/-- The SxLRV row of channel x. -/
def Instr.lrvOf : Chan → Instr
  | .mel .ch1 => .s1lrv
  | .mel .ch2 => .s2lrv
  | .mel .ch3 => .s3lrv
  | .mel .ch4 => .s4lrv
  | .mel .ch5 => .s5lrv
  | .noise => .s6lrv

/-- The SxFQL row of channel x. -/
def Instr.fqlOf : Chan → Instr
  | .mel .ch1 => .s1fql
  | .mel .ch2 => .s2fql
  | .mel .ch3 => .s3fql
  | .mel .ch4 => .s4fql
  | .mel .ch5 => .s5fql
  | .noise => .s6fql

/-- The SxFQH row of channel x. -/
def Instr.fqhOf : Chan → Instr
  | .mel .ch1 => .s1fqh
  | .mel .ch2 => .s2fqh
  | .mel .ch3 => .s3fqh
  | .mel .ch4 => .s4fqh
  | .mel .ch5 => .s5fqh
  | .noise => .s6fqh

/-- The SxEV0 row of channel x. -/
def Instr.ev0Of : Chan → Instr
  | .mel .ch1 => .s1ev0
  | .mel .ch2 => .s2ev0
  | .mel .ch3 => .s3ev0
  | .mel .ch4 => .s4ev0
  | .mel .ch5 => .s5ev0
  | .noise => .s6ev0

/-- The SxEV1 row of channel x. -/
def Instr.ev1Of : Chan → Instr
  | .mel .ch1 => .s1ev1
  | .mel .ch2 => .s2ev1
  | .mel .ch3 => .s3ev1
  | .mel .ch4 => .s4ev1
  | .mel .ch5 => .s5ev1
  | .noise => .s6ev1

/-- The SxRAM row of melodic channel x; CH6 has none (30_encoding.md R92). -/
def Instr.ramOf : Mel → Instr
  | .ch1 => .s1ram
  | .ch2 => .s2ram
  | .ch3 => .s3ram
  | .ch4 => .s4ram
  | .ch5 => .s5ram

end Sys2Proof
end

