-- ==== Sys2Proof/Machine/AddressMap.lean ====
section
/-! DEFINITION. The address map: the default parameter values (00_scope.md R5, 30_encoding.md R92), the address of each
register and sample (20_memory.md R65), the regions, and the 43 rows of test (3) of the address decode (30_encoding.md
R93). -/

namespace Sys2Proof

/-- The default `AddrMap`, the table of 30_encoding.md R92; log 9. -/
def AddrMap.default : AddrMap where
  wave := #v[0x01000000, 0x01000080, 0x01000100, 0x01000180, 0x01000200]
  modFirst := 0x01000280
  modBytes := 0x80
  int := #v[0x01000400, 0x01000440, 0x01000480, 0x010004C0, 0x01000500, 0x01000540]
  lrv := #v[0x01000404, 0x01000444, 0x01000484, 0x010004C4, 0x01000504, 0x01000544]
  fql := #v[0x01000408, 0x01000448, 0x01000488, 0x010004C8, 0x01000508, 0x01000548]
  fqh := #v[0x0100040C, 0x0100044C, 0x0100048C, 0x010004CC, 0x0100050C, 0x0100054C]
  ev0 := #v[0x01000410, 0x01000450, 0x01000490, 0x010004D0, 0x01000510, 0x01000550]
  ev1 := #v[0x01000414, 0x01000454, 0x01000494, 0x010004D4, 0x01000514, 0x01000554]
  ram := #v[0x01000418, 0x01000458, 0x01000498, 0x010004D8, 0x01000518]
  swp := 0x0100051C
  sstop := 0x01000580
  rangeFirst := 0x01000000
  rangeLast := 0x010007FF

/-- The default configuration (00_scope.md R5; 92_eei_decisions.md, open parameters): ADDR_W 32, WAVE_STRIDE 4,
MODDATA_DIRTY_MASK 0b11111, DIV16_FLOOR false; the noise patterns have no default and are a free constant. Logs 9, 18. -/
def Config.default : Config where
  addrW := 32
  map := AddrMap.default
  waveStride := 4
  modDirtyMask := 0b11111
  div16Floor := false
  noisePattern := Config.openNoisePattern

/-- A_WAVE(k) (30_encoding.md R92). -/
def AddrMap.aWave (m : AddrMap) (k : Slot) : Nat := m.wave.get k

/-- A_INT(x) (30_encoding.md R92). -/
def AddrMap.aInt (m : AddrMap) (x : Chan) : Nat := m.int.get x.ix

/-- A_LRV(x) (30_encoding.md R92). -/
def AddrMap.aLrv (m : AddrMap) (x : Chan) : Nat := m.lrv.get x.ix

/-- A_FQL(x) (30_encoding.md R92). -/
def AddrMap.aFql (m : AddrMap) (x : Chan) : Nat := m.fql.get x.ix

/-- A_FQH(x) (30_encoding.md R92). -/
def AddrMap.aFqh (m : AddrMap) (x : Chan) : Nat := m.fqh.get x.ix

/-- A_EV0(x) (30_encoding.md R92). -/
def AddrMap.aEv0 (m : AddrMap) (x : Chan) : Nat := m.ev0.get x.ix

/-- A_EV1(x) (30_encoding.md R92). -/
def AddrMap.aEv1 (m : AddrMap) (x : Chan) : Nat := m.ev1.get x.ix

/-- A_RAM(x), x = 1..5 (30_encoding.md R92). -/
def AddrMap.aRam (m : AddrMap) (x : Mel) : Nat := m.ram.get x.ix

/-- The address of sample i of slot k: A_WAVE(k) + WAVE_STRIDE x i (20_memory.md R65). -/
def Config.aSample (cfg : Config) (k : Slot) (i : Fin 32) : Nat := cfg.map.aWave k + cfg.waveStride * i.val

/-- Test (1) of R93 for one slot: A_WAVE(k) <= a <= A_WAVE(k) + 0x7F. -/
def AddrMap.inWave (m : AddrMap) (k : Slot) (a : Nat) : Bool := m.aWave k ≤ a && a < m.aWave k + waveBytes

/-- Test (2) of R93: `a` lies in the modulation-data region. -/
def AddrMap.inMod (m : AddrMap) (a : Nat) : Bool := m.modFirst ≤ a && a < m.modFirst + m.modBytes

/-- The five slots, in the order test (1) of R93 tries them. -/
def allSlots : List Slot := [0, 1, 2, 3, 4]

/-- Rows of the six SxINT registers: exact address and instruction (30_encoding.md R92, R93). -/
def intRows (m : AddrMap) : List (Nat × Instr) :=
  [(m.int.get 0, .s1int), (m.int.get 1, .s2int), (m.int.get 2, .s3int), (m.int.get 3, .s4int), (m.int.get 4, .s5int), (m.int.get 5, .s6int)]

/-- Rows of the six SxLRV registers: exact address and instruction (30_encoding.md R92, R93). -/
def lrvRows (m : AddrMap) : List (Nat × Instr) :=
  [(m.lrv.get 0, .s1lrv), (m.lrv.get 1, .s2lrv), (m.lrv.get 2, .s3lrv), (m.lrv.get 3, .s4lrv), (m.lrv.get 4, .s5lrv), (m.lrv.get 5, .s6lrv)]

/-- Rows of the six SxFQL registers: exact address and instruction (30_encoding.md R92, R93). -/
def fqlRows (m : AddrMap) : List (Nat × Instr) :=
  [(m.fql.get 0, .s1fql), (m.fql.get 1, .s2fql), (m.fql.get 2, .s3fql), (m.fql.get 3, .s4fql), (m.fql.get 4, .s5fql), (m.fql.get 5, .s6fql)]

/-- Rows of the six SxFQH registers: exact address and instruction (30_encoding.md R92, R93). -/
def fqhRows (m : AddrMap) : List (Nat × Instr) :=
  [(m.fqh.get 0, .s1fqh), (m.fqh.get 1, .s2fqh), (m.fqh.get 2, .s3fqh), (m.fqh.get 3, .s4fqh), (m.fqh.get 4, .s5fqh), (m.fqh.get 5, .s6fqh)]

/-- Rows of the six SxEV0 registers: exact address and instruction (30_encoding.md R92, R93). -/
def ev0Rows (m : AddrMap) : List (Nat × Instr) :=
  [(m.ev0.get 0, .s1ev0), (m.ev0.get 1, .s2ev0), (m.ev0.get 2, .s3ev0), (m.ev0.get 3, .s4ev0), (m.ev0.get 4, .s5ev0), (m.ev0.get 5, .s6ev0)]

/-- Rows of the six SxEV1 registers: exact address and instruction (30_encoding.md R92, R93). -/
def ev1Rows (m : AddrMap) : List (Nat × Instr) :=
  [(m.ev1.get 0, .s1ev1), (m.ev1.get 1, .s2ev1), (m.ev1.get 2, .s3ev1), (m.ev1.get 3, .s4ev1), (m.ev1.get 4, .s5ev1), (m.ev1.get 5, .s6ev1)]

/-- Rows of the five SxRAM registers, S5SWP and SSTOP (30_encoding.md R92, R93). -/
def otherRows (m : AddrMap) : List (Nat × Instr) :=
  [(m.ram.get 0, .s1ram), (m.ram.get 1, .s2ram), (m.ram.get 2, .s3ram), (m.ram.get 3, .s4ram), (m.ram.get 4, .s5ram),
   (m.swp, .s5swp), (m.sstop, .sstop)]

/-- The 43 register rows (10_state.md R40; 30_encoding.md R93 test (3)). -/
def regRows (m : AddrMap) : List (Nat × Instr) :=
  intRows m ++ lrvRows m ++ fqlRows m ++ fqhRows m ++ ev0Rows m ++ ev1Rows m ++ otherRows m

/-- The 43 register addresses. -/
def AddrMap.regAddrs (m : AddrMap) : List Nat := (regRows m).map Prod.fst

/-- `a` is one of the 43 register addresses. -/
def AddrMap.isReg (m : AddrMap) (a : Nat) : Bool := m.regAddrs.contains a

/-- `a` lies in one of the six regions. -/
def AddrMap.inRegion (m : AddrMap) (a : Nat) : Bool := allSlots.any (fun k => m.inWave k a) || m.inMod a

/-- `a` is a register or lies in a region: the addresses that are not `UNDEF` (30_encoding.md R96). -/
def AddrMap.mapped (m : AddrMap) (a : Nat) : Bool := m.inRegion a || m.isReg a

end Sys2Proof
end

