-- ==== Sys2Proof/Machine/State.lean ====
section
/-! DEFINITION. The state: the block's record (10_state.md R20), its command stream (R37) and its surroundings (bus
memory, gate input, feedback, the host's pending actions), all plain data; the ways a step can stop; the state right
after reset (10_state.md R43). -/

namespace Sys2Proof.Machine

/-- `ch[x].envelope` (10_state.md R26). Shadow fields: written, read by no rule (R34). -/
structure Envelope where
  active : Bool
  growing : Bool
  stepTime : Rat
  currentLevel : Fin 256
  deriving DecidableEq, Repr

/-- `ch[x].sweep` (10_state.md R27). Shadow fields (R34). -/
structure Sweep where
  active : Bool
  isModulation : Bool
  intervalTime : Rat
  deriving DecidableEq, Repr

/-- One channel record (10_state.md R21). `waveform_index`, which CH6 lacks, stands in `Block.waveIndex`. -/
structure Channel where
  /-- R22: the state of the enable/disable machine. -/
  enabled : Bool
  /-- R23: the raw 11-bit frequency code. -/
  frequencyReg : Fin 2048
  /-- R24: the nominal volume. -/
  volume : Fin 256
  /-- R25: the pan. -/
  pan : Fin 256
  envelope : Envelope
  sweep : Sweep
  deriving DecidableEq, Repr

/-- `nsel`, CH6's noise selector (10_state.md R33). -/
structure NoiseSel where
  active : NoiseIx
  playing : Bool
  deriving DecidableEq, Repr

/-- The whole state of the block (10_state.md R20). -/
structure Block where
  /-- The six channel records, CH1..CH6 in order (R21). -/
  ch : Vector Channel 6
  /-- `ch[x].waveform_index`, x = 1..5 (R28). -/
  waveIndex : Vector Slot 5
  /-- `dirty[k]`, k = 0..4 (R30). -/
  dirty : Vector Bool 5
  nsel : NoiseSel
  /-- R36: the sticky record of a backend initialisation failure. -/
  failed : Bool
  deriving DecidableEq, Repr

/-- The thirteen voices: V(x) for the melodic channels, N(n) for the eight noise voices (10_state.md R35). -/
inductive Voice where
  | V (m : Mel)
  | N (n : NoiseIx)
  deriving DecidableEq, Repr

/-- The backend commands: the closed set of 00_scope.md R9. Durations are in DU, frequencies in Hz, exact (R7). -/
inductive Cmd where
  | upload (v : Voice) (buf : Vector Byte 32)
  | sweepFreq (v : Voice) (dur hz : Rat)
  | setPos (v : Voice) (off : Nat)
  | start (v : Voice)
  | stop (v : Voice)
  | setFreq (v : Voice) (hz : Rat)
  | setVol (v : Voice) (n : Fin 256)
  | setPan (v : Voice) (n : Fin 256)
  | rampVol (v : Voice) (target : Fin 256) (dur : Rat)
  deriving DecidableEq, Repr

/-- The two feedback samples of a step: `FbVol` in 0..255 and `FbFreq`, a non-negative rational (00_scope.md R10). -/
structure Feedback where
  vol : Fin 256
  freq : Rat
  nonneg : 0 ≤ freq
  deriving DecidableEq, Repr

/-- What the surroundings do to the block, one at a time (00_scope.md R12; 30_encoding.md R111). -/
inductive HostAction where
  /-- `ST a, v`: the CPU writes a byte and the bus notifies its address; one step of the block (30_encoding.md R111). -/
  | st (a : Nat) (v : Byte)
  /-- `NOTIFY a`: a notification alone (30_encoding.md R111; 20_memory.md R60). -/
  | notify (a : Nat)
  /-- Memory changes and no notification follows (20_memory.md R73). -/
  | poke (a : Nat) (v : Byte)
  /-- A CPU store of consecutive bytes, which the bus turns into one notification per mapped byte (20_memory.md R72). -/
  | store (a : Nat) (bytes : List Byte)
  /-- `FB`: what the backend answers in the following steps (30_encoding.md R111). -/
  | fb (f : Feedback)
  /-- `SNDEN`: the host sets `snd_en` (10_state.md R36; 30_encoding.md R111). -/
  | sndEn (on : Bool)
  /-- The host shuts the engine down (70_reset_and_hazards.md R323). -/
  | shutdown
  /-- The host initialises the engine, with `backend_init_ok` (70_reset_and_hazards.md R310, R311). -/
  | init (ok : Bool)
  deriving DecidableEq, Repr

/-- What the block reports to the host (60_exceptions.md R281). -/
inductive Report where
  /-- The backend could not be initialised. -/
  | backendInitFail
  deriving DecidableEq, Repr

/-- The bus emulator's memory: listed bytes in one canonical form (`Memory.wf`, in Machine/Ops.lean). -/
abbrev Memory := List Host.Cell

/-- What surrounds the block: inputs, bus memory and the configuration. None of it is the block's state (10_state.md
R36, R40, R42); log 1. -/
structure Env where
  /-- The configuration (00_scope.md R5); no step writes it. -/
  cfg : Config
  /-- Whether the engine exists: between initialisation and shutdown (70_reset_and_hazards.md R310, R323). -/
  alive : Bool
  /-- `snd_en` (10_state.md R36). -/
  sndEn : Bool
  /-- The emulated memory (10_state.md R40, R41). -/
  bus : Memory
  /-- The host's pending actions, the next one first; log 3. -/
  inbox : List HostAction
  /-- A scripted answer of the backend (an FB line), or none: each step draws free values; log 4. -/
  backend : Option Feedback
  /-- The number of feedback samples taken so far; the free draws are indexed by it; log 4. -/
  draws : Nat
  /-- `FbVol`, `FbFreq` of the step in progress, latched at acceptance (00_scope.md R10); log 4. -/
  sample : Feedback
  /-- The reports made to the host so far (60_exceptions.md R281); log 14. -/
  reports : List Report
  deriving DecidableEq, Repr

/-- The machine: the block, the stream of commands it has emitted so far (oldest first; an event history, 10_state.md
R37, log 2), and its surroundings. -/
structure State where
  blk : Block
  out : List Cmd
  env : Env
  deriving DecidableEq, Repr

/-- The faults of a step. No instruction raises one (60_exceptions.md R280). -/
inductive Fault where
  /-- Raised by the host actions `st`, `poke` and `store` when they write a byte at a number of more than ADDR_W bits,
  which is no address (30_encoding.md R90; 10_state.md R41). Safe: the model stops; log 12. -/
  | outsideAddressSpace
  deriving DecidableEq, Repr

/-- The refusals of a step. -/
inductive Refusal where
  /-- Raised by `exec` for an instruction that has no meaning yet. Safe. No arm raises it. -/
  | notModelled (mnemonic : String)
  /-- Raised when the host notifies a number of more than ADDR_W bits (30_encoding.md R90). Safe: the model stops;
  log 12. -/
  | addressTooWide
  /-- Raised when the host notifies, or shuts down, after shutdown: "a model gives the block no step after shutdown"
  (70_reset_and_hazards.md R323; 93_implementation_defined.md U13). Safe: the model stops; log 13. -/
  | afterShutdown
  /-- Raised when the host initialises an engine that exists: there is one instance, initialised once per lifetime
  (70_reset_and_hazards.md R310). Safe: the model stops; log 13. -/
  | alreadyInitialised
  deriving DecidableEq, Repr

/-- A channel record after reset (10_state.md R43). -/
def Channel.reset : Channel where
  enabled := false
  frequencyReg := 0
  volume := 0
  pan := 128
  envelope := { active := false, growing := false, stepTime := 0, currentLevel := 0 }
  sweep := { active := false, isModulation := false, intervalTime := 0 }

/-- The block after reset, with the reset-time input `backend_init_ok` (10_state.md R43; 70_reset_and_hazards.md R311). -/
def Block.reset (initOk : Bool) : Block where
  ch := Vector.replicate 6 Channel.reset
  waveIndex := Vector.replicate 5 0
  dirty := Vector.replicate 5 true
  nsel := { active := 0, playing := false }
  failed := !initOk

/-- The surroundings right after reset under a configuration: nothing pending, no memory byte listed (log 5), `snd_en` on
(log 7), free feedback (log 4); a failed initialisation has been reported once (60_exceptions.md R281). -/
def Env.reset (cfg : Config) (initOk : Bool) : Env where
  cfg := cfg
  alive := true
  sndEn := true
  bus := []
  inbox := []
  backend := none
  draws := 0
  sample := { vol := 0, freq := 0, nonneg := le_refl 0 }
  reports := if initOk then [] else [.backendInitFail]

/-- The machine right after reset for any configuration and either value of `backend_init_ok`. -/
def State.resetWith (cfg : Config) (initOk : Bool) : State where
  blk := Block.reset initOk
  out := []
  env := Env.reset cfg initOk

/-- The machine right after a successful initialisation under the default parameters (10_state.md R43; log 6). -/
def State.reset : State := State.resetWith Config.default true

end Sys2Proof.Machine
end

