-- ==== Sys2Proof/Machine/Operands.lean ====
section
/-! DEFINITION. Register byte layouts (30_encoding.md R100 to R109), operand assembly (R110) and the pure derivation
functions: samples, volume, pan, rates, durations (00_scope.md R3d, R5). -/

namespace Sys2Proof.Machine

/-- SxINT bit 7, `en` (30_encoding.md R100). -/
def intEn (b : Byte) : Bool := b.getLsbD 7

/-- SxINT bit 5, `ie` (30_encoding.md R100). -/
def intIe (b : Byte) : Bool := b.getLsbD 5

/-- SxINT bits 4:0, `iv` (30_encoding.md R100). -/
def intIv (b : Byte) : BitVec 5 := b.extractLsb' 0 5

/-- SxLRV bits 7:4, `left` (30_encoding.md R101). -/
def lrvLeft (b : Byte) : BitVec 4 := b.extractLsb' 4 4

/-- SxLRV bits 3:0, `right` (30_encoding.md R101). -/
def lrvRight (b : Byte) : BitVec 4 := b.extractLsb' 0 4

/-- SxFQH bits 2:0, `hi` (30_encoding.md R102). -/
def fqhHi (b : Byte) : BitVec 3 := b.extractLsb' 0 3

/-- SxEV0 bits 7:4, `level` (30_encoding.md R103). -/
def ev0Level (b : Byte) : BitVec 4 := b.extractLsb' 4 4

/-- SxEV0 bit 0, `env_en` (30_encoding.md R103). -/
def ev0En (b : Byte) : Bool := b.getLsbD 0

/-- SxEV1 bit 3, `grow` (30_encoding.md R104). -/
def ev1Grow (b : Byte) : Bool := b.getLsbD 3

/-- SxEV1 bits 2:0, `r` (30_encoding.md R104). -/
def ev1Rate (b : Byte) : BitVec 3 := b.extractLsb' 0 3

/-- S5EV1 bit 6, `swp_en` (30_encoding.md R105). -/
def ev1SwpEn (b : Byte) : Bool := b.getLsbD 6

/-- S5EV1 bit 4, `mod` (30_encoding.md R105). -/
def ev1Mod (b : Byte) : Bool := b.getLsbD 4

/-- S6EV1 bits 6:4, `nsel` (30_encoding.md R106). -/
def ev1Nsel (b : Byte) : NoiseIx := (b.extractLsb' 4 3).toFin

/-- SxRAM bits 3:0, `widx` (30_encoding.md R107). -/
def ramWidx (b : Byte) : BitVec 4 := b.extractLsb' 0 4

/-- S5SWP bit 7, `shift` (30_encoding.md R108). -/
def swpShift (b : Byte) : Bool := b.getLsbD 7

/-- S5SWP bits 6:4, `base` (30_encoding.md R108). -/
def swpBase (b : Byte) : BitVec 3 := b.extractLsb' 4 3

/-- S5SWP bit 3, `dir`, 1 = add (30_encoding.md R108). -/
def swpDir (b : Byte) : Bool := b.getLsbD 3

/-- S5SWP bits 2:0, `s` (30_encoding.md R108). -/
def swpCount (b : Byte) : BitVec 3 := b.extractLsb' 0 3

/-- `freq_code = {hi, lo}`, 0..2047 (30_encoding.md R102, R110). -/
def freqCode (fqh fql : Byte) : Fin 2048 := (fqhHi fqh ++ fql).toFin

/-- A legal waveform index 0..4, or none for 5..15 (30_encoding.md R107; 40_waveform_store.md R135). -/
def legalIndex (w : BitVec 4) : Option Slot := if h : w.toNat < 5 then some ⟨w.toNat, h⟩ else none

/-- One converted sample: `(raw << 2) xor 0x80` of the byte's low six bits (40_waveform_store.md R132). -/
def convertSample (b : Byte) : Byte := (((b.extractLsb' 0 6).setWidth 8) <<< 2) ^^^ 0x80#8

/-- `p`, from the highest set bit of `left or right`: 0 = bit 3 down to 3 = bit 0, 4 = none (42_volume_pan.md R171). -/
def highBit (orv : BitVec 4) : Nat :=
  if orv.getLsbD 3 then 0 else if orv.getLsbD 2 then 1 else if orv.getLsbD 1 then 2 else if orv.getLsbD 0 then 3 else 4

/-- The nominal volume as a number (42_volume_pan.md R171). -/
def volumeNat (orv level : BitVec 4) : Nat :=
  let p := highBit orv
  if p < 4 then (1 <<< (3 - p)) * level.toNat else 0

theorem volumeNat_le (orv level : BitVec 4) : volumeNat orv level ≤ 120 := by
  revert orv level; decide +kernel

/-- The nominal volume; it fits 0..255 with no clamp (42_volume_pan.md R171). -/
def nominalVolume (orv level : BitVec 4) : Fin 256 :=
  ⟨volumeNat orv level, Nat.lt_of_le_of_lt (volumeNat_le orv level) (by decide)⟩

/-- `clamp(0, 255, v)`: the backend's valid pan range (42_volume_pan.md R172). -/
def clamp255 (v : Int) : Fin 256 := ⟨(max 0 (min 255 v)).toNat, by omega⟩

/-- The pan: `clamp(0, 255, 128 + (left - right) x (8 << p))` (42_volume_pan.md R172). -/
def derivedPan (left right : BitVec 4) : Fin 256 :=
  clamp255 (128 + ((left.toNat : Int) - (right.toNat : Int)) * ((8 <<< highBit (left ||| right) : Nat) : Int))

/-- K_INTERVAL = 3.84 (00_scope.md R5). -/
def kInterval : Rat := 96 / 25

/-- K_ENV = 15.36 (00_scope.md R5). -/
def kEnv : Rat := 384 / 25

/-- K_SWP_SLOW = 7.68, shift bit set (00_scope.md R5). -/
def kSwpSlow : Rat := 192 / 25

/-- K_SWP_FAST = 0.96, shift bit clear (00_scope.md R5). -/
def kSwpFast : Rat := 24 / 25

/-- CLK_MELODIC (00_scope.md R5). -/
def clkMelodic : Rat := 5000000

/-- CLK_NOISE (00_scope.md R5). -/
def clkNoise : Rat := 500000

/-- FREQ_CLAMP (00_scope.md R5). -/
def freqClamp : Nat := 2038

/-- `RateMelodic(c) = 5000000 / (2048 - min(c, 2038))` (46_frequency.md R246). -/
def rateMelodic (c : Fin 2048) : Rat := clkMelodic / (2048 - min c.val freqClamp : Nat)

/-- `RateNoise(c) = 500000 / (2048 - c)` (46_frequency.md R246). -/
def rateNoise (c : Fin 2048) : Rat := clkNoise / (2048 - c.val : Nat)

/-- `Rate(x, c)` (46_frequency.md R246). -/
def rate (x : Chan) (c : Fin 2048) : Rat :=
  match x with
  | .mel _ => rateMelodic c
  | .noise => rateNoise c

/-- The interval duration `T = K_INTERVAL x (iv + 1)` (41_channel_enable.md R152). -/
def intervalDuration (b : Byte) : Rat := kInterval * ((intIv b).toNat + 1 : Nat)

/-- The envelope's `step = K_ENV x (r + 1)` (43_envelope.md R192). -/
def envelopeStep (ev1 : Byte) : Rat := kEnv * ((ev1Rate ev1).toNat + 1 : Nat)

/-- The /16 of the envelope durations: exact, or floored when DIV16_FLOOR is set (43_envelope.md R192). -/
def div16 (floor : Bool) (n : Nat) : Rat := if floor then ((n / 16 : Nat) : Rat) else (n : Rat) / 16

/-- The distance a ramp has to cover: 255 - v when growing, v when decaying (43_envelope.md R192). -/
def rampDistance (grow : Bool) (v : Fin 256) : Nat := if grow then 255 - v.val else v.val

/-- The ramp's target: the constant 255 or 0 (43_envelope.md R192). -/
def rampTarget (grow : Bool) : Fin 256 := if grow then 255 else 0

/-- The ramp's duration (43_envelope.md R192). -/
def rampDuration (floor : Bool) (ev1 : Byte) (v : Fin 256) : Rat :=
  envelopeStep ev1 * div16 floor (rampDistance (ev1Grow ev1) v)

/-- The sweep interval `T` (44_sweep.md R212). -/
def sweepInterval (swp : Byte) : Rat := (if swpShift swp then kSwpSlow else kSwpFast) * (swpBase swp).toNat

/-- The sweep's distance in codes: 2047 - f when adding, f when subtracting (44_sweep.md R213). -/
def sweepDistance (dir : Bool) (f : Fin 2048) : Nat := if dir then 2047 - f.val else f.val

/-- The sweep's duration `distance x T / (s + 1)` (44_sweep.md R213). -/
def sweepDuration (swp : Byte) (f : Fin 2048) : Rat :=
  sweepDistance (swpDir swp) f * sweepInterval swp / ((swpCount swp).toNat + 1 : Nat)

/-- The sweep's target rate: RateMelodic(2047) when adding, RateMelodic(0) when subtracting (44_sweep.md R213). -/
def sweepTarget (dir : Bool) : Rat := if dir then rateMelodic 2047 else rateMelodic 0

end Sys2Proof.Machine
end

