-- ==== Sys2Proof/Machine/Ops.lean ====
section
/-! DEFINITION. Named operations: bus memory, `MemRead`, channel fields, voices, `emit`, the feedback sample, and the
one error event with its reset (60_exceptions.md R281, R284, R285), which is all this machine has in the place of an
exception and a return. -/

namespace Sys2Proof.Machine

/-- What a byte of memory that nothing has written reads as. DESIGN CHOICE, unsafe; log 5. -/
def unlistedByte : Byte := 0

/-- The byte at an address. -/
def Memory.read : Memory → Nat → Byte
  | [], _ => unlistedByte
  | (b, w) :: rest, a => if b = a then w else Memory.read rest a

/-- Put a byte in front of a memory unless an unlisted address reads as that byte. -/
def Memory.cons (a : Nat) (v : Byte) (m : Memory) : Memory := if v = unlistedByte then m else (a, v) :: m

/-- Write one byte, keeping the canonical form. -/
def Memory.write : Memory → Nat → Byte → Memory
  | [], a, v => Memory.cons a v []
  | (b, w) :: rest, a, v =>
    if a < b then Memory.cons a v ((b, w) :: rest)
    else if a = b then Memory.cons a v rest
    else (b, w) :: Memory.write rest a v

/-- The canonical form: addresses strictly rising, no entry equal to what an unlisted address reads as. -/
def Memory.wf : Memory → Bool
  | [] => true
  | [(_, w)] => w != unlistedByte
  | (a, w) :: (b, v) :: rest => a < b && w != unlistedByte && Memory.wf ((b, v) :: rest)

/-- Write consecutive bytes from `a` upward. -/
def Memory.writeBytes (m : Memory) (a : Nat) : List Byte → Memory
  | [] => m
  | v :: vs => Memory.writeBytes (m.write a v) (a + 1) vs

/-- `MemRead(a, 1)` (00_scope.md R8; 20_memory.md R62). -/
def State.memRead (s : State) (a : Nat) : Byte := s.env.bus.read a

/-- The address map in force. -/
def State.map (s : State) : AddrMap := s.env.cfg.map

/-- The CPU's `MemWrite(a, 1, v)`; the block never performs it (00_scope.md R8; 20_memory.md R60). -/
def State.memWrite (s : State) (a : Nat) (v : Byte) : State :=
  { s with env := { s.env with bus := s.env.bus.write a v } }

/-- The byte of register SxINT in memory. -/
def State.intByte (s : State) (x : Chan) : Byte := s.memRead (s.map.aInt x)

/-- The byte of register SxLRV in memory. -/
def State.lrvByte (s : State) (x : Chan) : Byte := s.memRead (s.map.aLrv x)

/-- The byte of register SxFQL in memory. -/
def State.fqlByte (s : State) (x : Chan) : Byte := s.memRead (s.map.aFql x)

/-- The byte of register SxFQH in memory. -/
def State.fqhByte (s : State) (x : Chan) : Byte := s.memRead (s.map.aFqh x)

/-- The byte of register SxEV0 in memory. -/
def State.ev0Byte (s : State) (x : Chan) : Byte := s.memRead (s.map.aEv0 x)

/-- The byte of register SxEV1 in memory. -/
def State.ev1Byte (s : State) (x : Chan) : Byte := s.memRead (s.map.aEv1 x)

/-- The byte of register SxRAM in memory. -/
def State.ramByte (s : State) (x : Mel) : Byte := s.memRead (s.map.aRam x)

/-- The byte of register S5SWP in memory. -/
def State.swpByte (s : State) : Byte := s.memRead s.map.swp

/-- `ch[x]` (00_scope.md R8). -/
def State.chan (s : State) (x : Chan) : Channel := s.blk.ch.get x.ix

/-- Replace the record of channel x. -/
def State.setChan (s : State) (x : Chan) (c : Channel) : State :=
  { s with blk := { s.blk with ch := s.blk.ch.set x.ix c } }

/-- `ch[x].waveform_index` (10_state.md R28). -/
def State.waveIndex (s : State) (x : Mel) : Slot := s.blk.waveIndex.get x.ix

/-- `ch[x].waveform_index <- k`. -/
def State.setWaveIndex (s : State) (x : Mel) (k : Slot) : State :=
  { s with blk := { s.blk with waveIndex := s.blk.waveIndex.set x.ix k } }

/-- `voice(x)` as it is at the moment of use (10_state.md R35). -/
def State.voice (s : State) (x : Chan) : Voice :=
  match x with
  | .mel m => .V m
  | .noise => .N s.blk.nsel.active

/-- `emit c` (00_scope.md R8). -/
def State.emit (s : State) (c : Cmd) : State := { s with out := s.out ++ [c] }

/-- `nsel.active <- n`. -/
def State.setNoiseActive (s : State) (n : NoiseIx) : State :=
  { s with blk := { s.blk with nsel := { s.blk.nsel with active := n } } }

/-- What the backend answers in the step being accepted: the scripted answer, or a free draw (00_scope.md R10; log 4). -/
def State.answer (s : State) : Feedback :=
  match s.env.backend with
  | some f => f
  | none => { vol := Config.freeVol s.env.draws, freq := (Config.freeFreq s.env.draws : Rat),
              nonneg := (Config.freeFreq s.env.draws).property }

/-- Sample `FbVol` and `FbFreq` once, when the notification is accepted (30_encoding.md R95 line 3). -/
def State.sampleFeedback (s : State) : State :=
  { s with env := { s.env with sample := s.answer, draws := s.env.draws + 1 } }

/-- Initialisation: every field of the block at its reset value, `backend_init_ok` sampled into `failed`, no memory read,
no command emitted (70_reset_and_hazards.md R310 to R312). If the backend failed this is the error event BackendInitFail,
reported once; nothing is saved and no control is transferred (60_exceptions.md R281, R284), and a later initialisation
is the only way out of it (R285). -/
def State.initialise (s : State) (ok : Bool) : State :=
  { s with
    blk := Block.reset ok
    env := { s.env with alive := true, reports := if ok then s.env.reports else s.env.reports ++ [.backendInitFail] } }

/-- Shutdown: the state ceases to exist and no command is emitted (70_reset_and_hazards.md R323). -/
def State.shutdown (s : State) : State := { s with env := { s.env with alive := false } }

end Sys2Proof.Machine
end

