-- ==== Sys2Proof/Machine/Flags.lean ====
section
/-! DEFINITION. Every flag-like bit of the block: what sets and clears it (10_state.md R39), and the gate (47_global.md
R262). There are no condition codes. -/

namespace Sys2Proof.Machine

/-- `dirty[k]` (10_state.md R30). -/
def State.dirty (s : State) (k : Slot) : Bool := s.blk.dirty.get k

/-- `dirty[k] <- b`. -/
def State.setDirty (s : State) (k : Slot) (b : Bool) : State :=
  { s with blk := { s.blk with dirty := s.blk.dirty.set k b } }

/-- Set `dirty[k]` for every slot k the mask selects (40_waveform_store.md R131). -/
def State.markMasked (s : State) (mask : BitVec 5) : State :=
  { s with blk := { s.blk with dirty := Vector.ofFn fun k : Slot => s.blk.dirty.get k || mask.getLsbD k.val } }

/-- `ch[x].enabled <- b` (10_state.md R22). -/
def State.setEnabled (s : State) (x : Chan) (b : Bool) : State := s.setChan x { s.chan x with enabled := b }

/-- `nsel.playing <- b` (10_state.md R33). -/
def State.setPlaying (s : State) (b : Bool) : State :=
  { s with blk := { s.blk with nsel := { s.blk.nsel with playing := b } } }

/-- `ch[x].envelope.active <- b` (43_envelope.md R191). -/
def State.setEnvelopeActive (s : State) (x : Chan) (b : Bool) : State :=
  s.setChan x { s.chan x with envelope := { (s.chan x).envelope with active := b } }

/-- `ch[5].sweep.active` and `ch[5].sweep.is_modulation` as the gate bits of S5EV1 (44_sweep.md R211). -/
def State.setSweepGate (s : State) (ev1 : Byte) : State :=
  s.setChan .full
    { s.chan .full with sweep := { (s.chan .full).sweep with active := ev1SwpEn ev1, isModulation := ev1Mod ev1 } }

/-- The gate of every step: `snd_en and not failed` (47_global.md R262). -/
def State.gateOpen (s : State) : Bool := s.env.sndEn && !s.blk.failed

end Sys2Proof.Machine
end

