-- ==== Sys2Proof/Machine/WaveformStore.lean ====
section
/-! DEFINITION. Waveform store, dirty-flag tracker, waveform selection (40_waveform_store.md): WAVE0..WAVE4, MODDATA,
S1RAM..S5RAM. -/

namespace Sys2Proof.Machine

/-- `MarkDirty(k)` (40_waveform_store.md R130). -/
def markDirty (k : Slot) (s : State) : State := s.setDirty k true

/-- `MarkDirtyMod`: the slots MODDATA_DIRTY_MASK selects (40_waveform_store.md R131). -/
def markDirtyMod (s : State) : State := s.markMasked s.env.cfg.modDirtyMask

/-- `Convert(k)`: the slot's 32 samples as memory holds them now (40_waveform_store.md R132). -/
def convert (k : Slot) (s : State) : Vector Byte 32 :=
  Vector.ofFn fun i : Fin 32 => convertSample (s.memRead (s.env.cfg.aSample k i))

/-- `Recopy(k)` followed by `Upload(V(m), buf)` (40_waveform_store.md R132, R134). -/
def recopyUpload (m : Mel) (k : Slot) (s : State) : State := (s.setDirty k false).emit (.upload (.V m) (convert k s))

/-- `WaveSel(x)` (40_waveform_store.md R133 to R135). -/
def waveSel (m : Mel) (s : State) : State :=
  match legalIndex (ramWidx (s.ramByte m)) with
  | none => s
  | some w =>
    let s := s.setWaveIndex m w
    if (s.chan (.mel m)).enabled then s else recopyUpload m w s

/-- WAVE0 (40_waveform_store.md R130). -/
def execWave0 (s : State) : Host.Outcome State Fault Refusal := .next (markDirty 0 s)

/-- WAVE1 (40_waveform_store.md R130). -/
def execWave1 (s : State) : Host.Outcome State Fault Refusal := .next (markDirty 1 s)

/-- WAVE2 (40_waveform_store.md R130). -/
def execWave2 (s : State) : Host.Outcome State Fault Refusal := .next (markDirty 2 s)

/-- WAVE3 (40_waveform_store.md R130). -/
def execWave3 (s : State) : Host.Outcome State Fault Refusal := .next (markDirty 3 s)

/-- WAVE4 (40_waveform_store.md R130). -/
def execWave4 (s : State) : Host.Outcome State Fault Refusal := .next (markDirty 4 s)

/-- MODDATA (40_waveform_store.md R131). -/
def execModdata (s : State) : Host.Outcome State Fault Refusal := .next (markDirtyMod s)

/-- S1RAM (40_waveform_store.md R133 to R135). -/
def execS1ram (s : State) : Host.Outcome State Fault Refusal := .next (waveSel .ch1 s)

/-- S2RAM (40_waveform_store.md R133 to R135). -/
def execS2ram (s : State) : Host.Outcome State Fault Refusal := .next (waveSel .ch2 s)

/-- S3RAM (40_waveform_store.md R133 to R135). -/
def execS3ram (s : State) : Host.Outcome State Fault Refusal := .next (waveSel .ch3 s)

/-- S4RAM (40_waveform_store.md R133 to R135). -/
def execS4ram (s : State) : Host.Outcome State Fault Refusal := .next (waveSel .ch4 s)

/-- S5RAM (40_waveform_store.md R133 to R135). -/
def execS5ram (s : State) : Host.Outcome State Fault Refusal := .next (waveSel .ch5 s)

end Sys2Proof.Machine
end

