-- ==== Sys2Proof/Machine/ChannelEnable.lean ====
section
/-! DEFINITION. Channel enable/disable state machine (41_channel_enable.md): S1INT..S6INT. -/

namespace Sys2Proof.Machine

/-- Step (a) of the enable transition: recopy and upload the channel's slot if it is dirty (41_channel_enable.md R151). -/
def uploadIfDirty (m : Mel) (s : State) : State :=
  let k := s.waveIndex m
  if s.dirty k then recopyUpload m k s else s

/-- Step (b): with `ie` set, record T and sweep to the current frequency over T (41_channel_enable.md R152). -/
def armInterval (x : Chan) (b : Byte) (s : State) : State :=
  if intIe b then
    let t := intervalDuration b
    (s.setChan x { s.chan x with sweep := { (s.chan x).sweep with intervalTime := t } }).emit
      (.sweepFreq (s.voice x) t s.env.sample.freq)
  else s

/-- Steps (c) and (d): playback position to start, start the voice (41_channel_enable.md R153). -/
def startFromZero (x : Chan) (s : State) : State := (s.emit (.setPos (s.voice x) 0)).emit (.start (s.voice x))

/-- `EnableFSM(x)`, x = 1..5 (41_channel_enable.md R150, R154, R156). -/
def enableMelodic (m : Mel) (s : State) : State :=
  let x : Chan := .mel m
  let b := s.intByte x
  if !(s.chan x).enabled && intEn b then (startFromZero x (armInterval x b (uploadIfDirty m s))).setEnabled x true
  else if (s.chan x).enabled && !intEn b then (s.emit (.stop (s.voice x))).setEnabled x false
  else s

/-- `EnableFSM(6)`: no upload, and `nsel.playing` follows (41_channel_enable.md R155, R156). -/
def enableNoise (s : State) : State :=
  let b := s.intByte .noise
  if !(s.chan .noise).enabled && intEn b then
    ((startFromZero .noise (armInterval .noise b s)).setEnabled .noise true).setPlaying true
  else if (s.chan .noise).enabled && !intEn b then
    ((s.emit (.stop (s.voice .noise))).setEnabled .noise false).setPlaying false
  else s

/-- S1INT (41_channel_enable.md R150 to R154, R156). -/
def execS1int (s : State) : Host.Outcome State Fault Refusal := .next (enableMelodic .ch1 s)

/-- S2INT (41_channel_enable.md R150 to R154, R156). -/
def execS2int (s : State) : Host.Outcome State Fault Refusal := .next (enableMelodic .ch2 s)

/-- S3INT (41_channel_enable.md R150 to R154, R156). -/
def execS3int (s : State) : Host.Outcome State Fault Refusal := .next (enableMelodic .ch3 s)

/-- S4INT (41_channel_enable.md R150 to R154, R156). -/
def execS4int (s : State) : Host.Outcome State Fault Refusal := .next (enableMelodic .ch4 s)

/-- S5INT (41_channel_enable.md R150 to R154, R156). -/
def execS5int (s : State) : Host.Outcome State Fault Refusal := .next (enableMelodic .ch5 s)

/-- S6INT (41_channel_enable.md R155, R156). -/
def execS6int (s : State) : Host.Outcome State Fault Refusal := .next (enableNoise s)

end Sys2Proof.Machine
end

