-- ==== Sys2Proof/Machine/VolumePan.lean ====
section
/-! DEFINITION. Volume and pan derivation (42_volume_pan.md): S1LRV..S6LRV. -/

namespace Sys2Proof.Machine

/-- `VolPan(x)`: derive, store and send volume, then pan (42_volume_pan.md R170 to R173). -/
def volPan (x : Chan) (s : State) : State :=
  let left := lrvLeft (s.lrvByte x)
  let right := lrvRight (s.lrvByte x)
  let vol := nominalVolume (left ||| right) (ev0Level (s.ev0Byte x))
  let pan := derivedPan left right
  ((s.setChan x { s.chan x with volume := vol, pan := pan }).emit (.setVol (s.voice x) vol)).emit
    (.setPan (s.voice x) pan)

/-- S1LRV: VolPan(1) and nothing else (42_volume_pan.md R174). -/
def execS1lrv (s : State) : Host.Outcome State Fault Refusal := .next (volPan (.mel .ch1) s)

/-- S2LRV: VolPan(2) and nothing else (42_volume_pan.md R174). -/
def execS2lrv (s : State) : Host.Outcome State Fault Refusal := .next (volPan (.mel .ch2) s)

/-- S3LRV: VolPan(3) and nothing else (42_volume_pan.md R174). -/
def execS3lrv (s : State) : Host.Outcome State Fault Refusal := .next (volPan (.mel .ch3) s)

/-- S4LRV: VolPan(4) and nothing else (42_volume_pan.md R174). -/
def execS4lrv (s : State) : Host.Outcome State Fault Refusal := .next (volPan (.mel .ch4) s)

/-- S5LRV: VolPan(5) and nothing else (42_volume_pan.md R174). -/
def execS5lrv (s : State) : Host.Outcome State Fault Refusal := .next (volPan (.mel .ch5) s)

/-- S6LRV: VolPan(6) and nothing else (42_volume_pan.md R174). -/
def execS6lrv (s : State) : Host.Outcome State Fault Refusal := .next (volPan .noise s)

end Sys2Proof.Machine
end

