-- ==== Sys2Proof/Machine/EnvelopeRamp.lean ====
section
/-! DEFINITION. Envelope ramp calculator (43_envelope.md): S1EV0..S6EV0, S1EV1..S4EV1. -/

namespace Sys2Proof.Machine

/-- `Envelope(x)`: the gate bit is recorded; with it set, one ramp is computed from `FbVol` and sent, and the shadow
fields record the evaluation (43_envelope.md R191, R192). -/
def envelope (x : Chan) (s : State) : State :=
  let on := ev0En (s.ev0Byte x)
  let s := s.setEnvelopeActive x on
  if on then
    let ev1 := s.ev1Byte x
    let v := s.env.sample.vol
    let dur := rampDuration s.env.cfg.div16Floor ev1 v
    let c := s.chan x
    let env : Envelope :=
      { c.envelope with growing := ev1Grow ev1, stepTime := envelopeStep ev1, currentLevel := v }
    (s.emit (.rampVol (s.voice x) (rampTarget (ev1Grow ev1)) dur)).setChan x { c with envelope := env }
  else s

/-- S1EV0: VolPan(1), then Envelope(1) (43_envelope.md R193). -/
def execS1ev0 (s : State) : Host.Outcome State Fault Refusal := .next (envelope (.mel .ch1) (volPan (.mel .ch1) s))

/-- S2EV0: VolPan(2), then Envelope(2) (43_envelope.md R193). -/
def execS2ev0 (s : State) : Host.Outcome State Fault Refusal := .next (envelope (.mel .ch2) (volPan (.mel .ch2) s))

/-- S3EV0: VolPan(3), then Envelope(3) (43_envelope.md R193). -/
def execS3ev0 (s : State) : Host.Outcome State Fault Refusal := .next (envelope (.mel .ch3) (volPan (.mel .ch3) s))

/-- S4EV0: VolPan(4), then Envelope(4) (43_envelope.md R193). -/
def execS4ev0 (s : State) : Host.Outcome State Fault Refusal := .next (envelope (.mel .ch4) (volPan (.mel .ch4) s))

/-- S5EV0: VolPan(5), then Envelope(5) (43_envelope.md R193). -/
def execS5ev0 (s : State) : Host.Outcome State Fault Refusal := .next (envelope (.mel .ch5) (volPan (.mel .ch5) s))

/-- S6EV0: VolPan(6), then Envelope(6) (43_envelope.md R193). -/
def execS6ev0 (s : State) : Host.Outcome State Fault Refusal := .next (envelope .noise (volPan .noise s))

/-- S1EV1: VolPan(1), then Envelope(1) (43_envelope.md R194). -/
def execS1ev1 (s : State) : Host.Outcome State Fault Refusal := .next (envelope (.mel .ch1) (volPan (.mel .ch1) s))

/-- S2EV1: VolPan(2), then Envelope(2) (43_envelope.md R194). -/
def execS2ev1 (s : State) : Host.Outcome State Fault Refusal := .next (envelope (.mel .ch2) (volPan (.mel .ch2) s))

/-- S3EV1: VolPan(3), then Envelope(3) (43_envelope.md R194). -/
def execS3ev1 (s : State) : Host.Outcome State Fault Refusal := .next (envelope (.mel .ch3) (volPan (.mel .ch3) s))

/-- S4EV1: VolPan(4), then Envelope(4) (43_envelope.md R194). -/
def execS4ev1 (s : State) : Host.Outcome State Fault Refusal := .next (envelope (.mel .ch4) (volPan (.mel .ch4) s))

end Sys2Proof.Machine
end

