-- ==== Sys2Proof/Machine/Frequency.lean ====
section
/-! DEFINITION. Frequency conversion (46_frequency.md): S1FQL..S6FQL, S1FQH..S6FQH. -/

namespace Sys2Proof.Machine

/-- `Freq(x)`: assemble the code from both bytes in memory, store it unclamped, send the rate (46_frequency.md R245,
R246). -/
def freq (x : Chan) (s : State) : State :=
  let c := freqCode (s.fqhByte x) (s.fqlByte x)
  (s.setChan x { s.chan x with frequencyReg := c }).emit (.setFreq (s.voice x) (rate x c))

/-- S1FQL: Freq(1) (46_frequency.md R247). -/
def execS1fql (s : State) : Host.Outcome State Fault Refusal := .next (freq (.mel .ch1) s)

/-- S2FQL: Freq(2) (46_frequency.md R247). -/
def execS2fql (s : State) : Host.Outcome State Fault Refusal := .next (freq (.mel .ch2) s)

/-- S3FQL: Freq(3) (46_frequency.md R247). -/
def execS3fql (s : State) : Host.Outcome State Fault Refusal := .next (freq (.mel .ch3) s)

/-- S4FQL: Freq(4) (46_frequency.md R247). -/
def execS4fql (s : State) : Host.Outcome State Fault Refusal := .next (freq (.mel .ch4) s)

/-- S5FQL: Freq(5) (46_frequency.md R247). -/
def execS5fql (s : State) : Host.Outcome State Fault Refusal := .next (freq (.mel .ch5) s)

/-- S6FQL: Freq(6) (46_frequency.md R247). -/
def execS6fql (s : State) : Host.Outcome State Fault Refusal := .next (freq .noise s)

/-- S1FQH: Freq(1) (46_frequency.md R248). -/
def execS1fqh (s : State) : Host.Outcome State Fault Refusal := .next (freq (.mel .ch1) s)

/-- S2FQH: Freq(2) (46_frequency.md R248). -/
def execS2fqh (s : State) : Host.Outcome State Fault Refusal := .next (freq (.mel .ch2) s)

/-- S3FQH: Freq(3) (46_frequency.md R248). -/
def execS3fqh (s : State) : Host.Outcome State Fault Refusal := .next (freq (.mel .ch3) s)

/-- S4FQH: Freq(4) (46_frequency.md R248). -/
def execS4fqh (s : State) : Host.Outcome State Fault Refusal := .next (freq (.mel .ch4) s)

/-- S5FQH: Freq(5) (46_frequency.md R248). -/
def execS5fqh (s : State) : Host.Outcome State Fault Refusal := .next (freq (.mel .ch5) s)

/-- S6FQH: Freq(6) (46_frequency.md R248). -/
def execS6fqh (s : State) : Host.Outcome State Fault Refusal := .next (freq .noise s)

end Sys2Proof.Machine
end

