-- ==== Sys2Proof/Machine/GlobalStop.lean ====
section
/-! DEFINITION. Global stop and undefined addresses (47_global.md): SSTOP, UNDEF. -/

namespace Sys2Proof.Machine

/-- `StopAll`: stop the six channels' current voices, in channel order; no state changes (47_global.md R260). -/
def stopAll (s : State) : State :=
  (((((s.emit (.stop (.V .ch1))).emit (.stop (.V .ch2))).emit (.stop (.V .ch3))).emit (.stop (.V .ch4))).emit
    (.stop (.V .ch5))).emit (.stop (.N s.blk.nsel.active))

/-- SSTOP (47_global.md R260). -/
def execSstop (s : State) : Host.Outcome State Fault Refusal := .next (stopAll s)

/-- UNDEF: nothing happens (47_global.md R261). -/
def execUndef (s : State) : Host.Outcome State Fault Refusal := .next s

end Sys2Proof.Machine
end

