-- ==== Sys2Proof/Machine/NoiseSelect.lean ====
section
/-! DEFINITION. Noise channel voice selection (45_noise_select.md): S6EV1. -/

namespace Sys2Proof.Machine

/-- `NoiseSelect`: on a change, stop the old voice, switch, and if playing start the new one from zero
(45_noise_select.md R231). -/
def noiseSelect (s : State) : State :=
  let n := ev1Nsel (s.ev1Byte .noise)
  if n = s.blk.nsel.active then s
  else
    let s := (s.emit (.stop (.N s.blk.nsel.active))).setNoiseActive n
    if s.blk.nsel.playing then (s.emit (.setPos (.N n) 0)).emit (.start (.N n)) else s

/-- S6EV1: NoiseSelect, VolPan(6), Envelope(6) (45_noise_select.md R232). -/
def execS6ev1 (s : State) : Host.Outcome State Fault Refusal := .next (envelope .noise (volPan .noise (noiseSelect s)))

end Sys2Proof.Machine
end

