-- ==== Sys2Proof/Machine/SweepRamp.lean ====
section
/-! DEFINITION. Sweep/modulation ramp calculator of CH5 (44_sweep.md): S5EV1, S5SWP. -/

namespace Sys2Proof.Machine

/-- `Sweep`: the gate bits are recorded; in sweep mode one sweep of CH5's voice is computed from the stored frequency
code and sent; modulation and a closed gate send nothing (44_sweep.md R211 to R214). -/
def sweep (s : State) : State :=
  let ev1 := s.ev1Byte .full
  let s := s.setSweepGate ev1
  if ev1SwpEn ev1 && !ev1Mod ev1 then
    let w := s.swpByte
    s.emit (.sweepFreq (.V .ch5) (sweepDuration w (s.chan .full).frequencyReg) (sweepTarget (swpDir w)))
  else s

/-- S5EV1: VolPan(5), Envelope(5), Sweep (44_sweep.md R215). -/
def execS5ev1 (s : State) : Host.Outcome State Fault Refusal := .next (sweep (envelope .full (volPan .full s)))

/-- S5SWP: Sweep and nothing else (44_sweep.md R216). -/
def execS5swp (s : State) : Host.Outcome State Fault Refusal := .next (sweep s)

end Sys2Proof.Machine
end

