-- ==== Sys2Proof/Machine/Dispatch.lean ====
section
/-! DEFINITION. The dispatch of a decoded notification to its meaning, one arm per row (30_encoding.md R95). -/

namespace Sys2Proof.Machine

/-- The actions of an instruction's row (30_encoding.md R95 line 4). The gate, the decode and the feedback sample come
before, in the step. -/
def exec (i : Instr) (s : State) : Host.Outcome State Fault Refusal :=
  match i with
  | .wave0 _ => Sys2Proof.Machine.execWave0 s
  | .wave1 _ => Sys2Proof.Machine.execWave1 s
  | .wave2 _ => Sys2Proof.Machine.execWave2 s
  | .wave3 _ => Sys2Proof.Machine.execWave3 s
  | .wave4 _ => Sys2Proof.Machine.execWave4 s
  | .moddata _ => Sys2Proof.Machine.execModdata s
  | .s1int => Sys2Proof.Machine.execS1int s
  | .s2int => Sys2Proof.Machine.execS2int s
  | .s3int => Sys2Proof.Machine.execS3int s
  | .s4int => Sys2Proof.Machine.execS4int s
  | .s5int => Sys2Proof.Machine.execS5int s
  | .s6int => Sys2Proof.Machine.execS6int s
  | .s1lrv => Sys2Proof.Machine.execS1lrv s
  | .s2lrv => Sys2Proof.Machine.execS2lrv s
  | .s3lrv => Sys2Proof.Machine.execS3lrv s
  | .s4lrv => Sys2Proof.Machine.execS4lrv s
  | .s5lrv => Sys2Proof.Machine.execS5lrv s
  | .s6lrv => Sys2Proof.Machine.execS6lrv s
  | .s1fql => Sys2Proof.Machine.execS1fql s
  | .s2fql => Sys2Proof.Machine.execS2fql s
  | .s3fql => Sys2Proof.Machine.execS3fql s
  | .s4fql => Sys2Proof.Machine.execS4fql s
  | .s5fql => Sys2Proof.Machine.execS5fql s
  | .s6fql => Sys2Proof.Machine.execS6fql s
  | .s1fqh => Sys2Proof.Machine.execS1fqh s
  | .s2fqh => Sys2Proof.Machine.execS2fqh s
  | .s3fqh => Sys2Proof.Machine.execS3fqh s
  | .s4fqh => Sys2Proof.Machine.execS4fqh s
  | .s5fqh => Sys2Proof.Machine.execS5fqh s
  | .s6fqh => Sys2Proof.Machine.execS6fqh s
  | .s1ev0 => Sys2Proof.Machine.execS1ev0 s
  | .s2ev0 => Sys2Proof.Machine.execS2ev0 s
  | .s3ev0 => Sys2Proof.Machine.execS3ev0 s
  | .s4ev0 => Sys2Proof.Machine.execS4ev0 s
  | .s5ev0 => Sys2Proof.Machine.execS5ev0 s
  | .s6ev0 => Sys2Proof.Machine.execS6ev0 s
  | .s1ev1 => Sys2Proof.Machine.execS1ev1 s
  | .s2ev1 => Sys2Proof.Machine.execS2ev1 s
  | .s3ev1 => Sys2Proof.Machine.execS3ev1 s
  | .s4ev1 => Sys2Proof.Machine.execS4ev1 s
  | .s5ev1 => Sys2Proof.Machine.execS5ev1 s
  | .s6ev1 => Sys2Proof.Machine.execS6ev1 s
  | .s1ram => Sys2Proof.Machine.execS1ram s
  | .s2ram => Sys2Proof.Machine.execS2ram s
  | .s3ram => Sys2Proof.Machine.execS3ram s
  | .s4ram => Sys2Proof.Machine.execS4ram s
  | .s5ram => Sys2Proof.Machine.execS5ram s
  | .s5swp => Sys2Proof.Machine.execS5swp s
  | .sstop => Sys2Proof.Machine.execSstop s
  | .undef _ => Sys2Proof.Machine.execUndef s

end Sys2Proof.Machine
end

