-- ==== Sys2Proof/WellFormed.lean ====
section
/-! DEFINITION. When a configuration and an instruction are well formed. A configuration: the required properties of
`AddrMap` (30_encoding.md R92) and that what it names lies in the address space (R90; log 10). An instruction: it stands
for exactly one notified address of its row (R93). -/

namespace Sys2Proof

/-- The six regions as (first address, number of addresses) (30_encoding.md R92). -/
def AddrMap.regions (m : AddrMap) : List (Nat × Nat) :=
  allSlots.map (fun k => (m.aWave k, waveBytes)) ++ [(m.modFirst, m.modBytes)]

/-- Two address ranges have no address in common. -/
def rangesDisjoint (p q : Nat × Nat) : Bool := p.1 + p.2 ≤ q.1 || q.1 + q.2 ≤ p.1 || p.2 == 0 || q.2 == 0

/-- "the 43 register addresses are pairwise distinct" (30_encoding.md R92). -/
def AddrMap.registersDistinct (m : AddrMap) : Bool := decide m.regAddrs.Nodup

/-- "the six regions are pairwise disjoint" (30_encoding.md R92). -/
def AddrMap.regionsDisjoint (m : AddrMap) : Bool := decide (m.regions.Pairwise (fun p q => rangesDisjoint p q = true))

/-- "no register address lies in a region" (30_encoding.md R92). -/
def AddrMap.registersOutsideRegions (m : AddrMap) : Bool := m.regAddrs.all (fun a => !m.inRegion a)

/-- The required properties of an address map (30_encoding.md R92). -/
def AddrMap.wf (m : AddrMap) : Bool := m.registersDistinct && m.regionsDisjoint && m.registersOutsideRegions

/-- Every register, region and sample address is a number of ADDR_W bits (30_encoding.md R90; 10_state.md R41).
DEDUCED, log 10. -/
def Config.fits (cfg : Config) : Bool :=
  cfg.map.regAddrs.all (· < 2 ^ cfg.addrW) && cfg.map.regions.all (fun r => r.1 + r.2 ≤ 2 ^ cfg.addrW) &&
    allSlots.all (fun k => cfg.aSample k 31 < 2 ^ cfg.addrW)

/-- A configuration the spec allows. -/
def Config.wf (cfg : Config) : Bool := cfg.map.wf && cfg.fits

/-- The offset or address an instruction carries is one its row admits (30_encoding.md R93). -/
def Instr.wf (cfg : Config) : Instr → Bool
  | .wave0 off => off < waveBytes
  | .wave1 off => off < waveBytes
  | .wave2 off => off < waveBytes
  | .wave3 off => off < waveBytes
  | .wave4 off => off < waveBytes
  | .moddata off => off < cfg.map.modBytes
  | .undef a => a < 2 ^ cfg.addrW && !cfg.map.mapped a
  | .s1int | .s2int | .s3int | .s4int | .s5int | .s6int
  | .s1lrv | .s2lrv | .s3lrv | .s4lrv | .s5lrv | .s6lrv
  | .s1fql | .s2fql | .s3fql | .s4fql | .s5fql | .s6fql
  | .s1fqh | .s2fqh | .s3fqh | .s4fqh | .s5fqh | .s6fqh
  | .s1ev0 | .s2ev0 | .s3ev0 | .s4ev0 | .s5ev0 | .s6ev0
  | .s1ev1 | .s2ev1 | .s3ev1 | .s4ev1 | .s5ev1 | .s6ev1
  | .s1ram | .s2ram | .s3ram | .s4ram | .s5ram | .s5swp
  | .sstop => true

end Sys2Proof
end

