-- ==== Sys2Proof/Decode.lean ====
section
/-! DEFINITION. Address decode (30_encoding.md R93, R96), total on any number, and the encoder: the notified address of
an instruction (R90, R92). -/

namespace Sys2Proof

/-- Why a number is no notification. -/
inductive DecodeError where
  /-- The number has more than ADDR_W bits: it is no address (30_encoding.md R90). Safe: the model stops; log 12. -/
  | addressTooWide
  deriving DecidableEq, Repr

/-- Test (1) of R93: the first slot whose region holds `a`. -/
def waveSlotAt (m : AddrMap) (a : Nat) : Option Slot := allSlots.find? (fun k => m.inWave k a)

/-- Test (3) of R93: the register whose address is exactly `a`. -/
def regAt (m : AddrMap) (a : Nat) : Option Instr := ((regRows m).find? (fun r => r.1 == a)).map Prod.snd

/-- `Decode(a)` (30_encoding.md R93): the tests (1) to (4) in order, all ADDR_W bits taking part. -/
def decode (cfg : Config) (a : Nat) : Except DecodeError Instr :=
  if 2 ^ cfg.addrW ≤ a then .error .addressTooWide
  else match waveSlotAt cfg.map a with
    | some k => .ok (Instr.waveOf k (a - cfg.map.aWave k))
    | none =>
      if cfg.map.inMod a then .ok (.moddata (a - cfg.map.modFirst))
      else match regAt cfg.map a with
        | some i => .ok i
        | none => .ok (.undef a)

/-- The notified address that stands for an instruction (30_encoding.md R90, R92). -/
def encode (cfg : Config) : Instr → Nat
  | .wave0 off => cfg.map.aWave 0 + off
  | .wave1 off => cfg.map.aWave 1 + off
  | .wave2 off => cfg.map.aWave 2 + off
  | .wave3 off => cfg.map.aWave 3 + off
  | .wave4 off => cfg.map.aWave 4 + off
  | .moddata off => cfg.map.modFirst + off
  | .s1int => cfg.map.aInt (.mel .ch1)
  | .s2int => cfg.map.aInt (.mel .ch2)
  | .s3int => cfg.map.aInt (.mel .ch3)
  | .s4int => cfg.map.aInt (.mel .ch4)
  | .s5int => cfg.map.aInt (.mel .ch5)
  | .s6int => cfg.map.aInt .noise
  | .s1lrv => cfg.map.aLrv (.mel .ch1)
  | .s2lrv => cfg.map.aLrv (.mel .ch2)
  | .s3lrv => cfg.map.aLrv (.mel .ch3)
  | .s4lrv => cfg.map.aLrv (.mel .ch4)
  | .s5lrv => cfg.map.aLrv (.mel .ch5)
  | .s6lrv => cfg.map.aLrv .noise
  | .s1fql => cfg.map.aFql (.mel .ch1)
  | .s2fql => cfg.map.aFql (.mel .ch2)
  | .s3fql => cfg.map.aFql (.mel .ch3)
  | .s4fql => cfg.map.aFql (.mel .ch4)
  | .s5fql => cfg.map.aFql (.mel .ch5)
  | .s6fql => cfg.map.aFql .noise
  | .s1fqh => cfg.map.aFqh (.mel .ch1)
  | .s2fqh => cfg.map.aFqh (.mel .ch2)
  | .s3fqh => cfg.map.aFqh (.mel .ch3)
  | .s4fqh => cfg.map.aFqh (.mel .ch4)
  | .s5fqh => cfg.map.aFqh (.mel .ch5)
  | .s6fqh => cfg.map.aFqh .noise
  | .s1ev0 => cfg.map.aEv0 (.mel .ch1)
  | .s2ev0 => cfg.map.aEv0 (.mel .ch2)
  | .s3ev0 => cfg.map.aEv0 (.mel .ch3)
  | .s4ev0 => cfg.map.aEv0 (.mel .ch4)
  | .s5ev0 => cfg.map.aEv0 (.mel .ch5)
  | .s6ev0 => cfg.map.aEv0 .noise
  | .s1ev1 => cfg.map.aEv1 (.mel .ch1)
  | .s2ev1 => cfg.map.aEv1 (.mel .ch2)
  | .s3ev1 => cfg.map.aEv1 (.mel .ch3)
  | .s4ev1 => cfg.map.aEv1 (.mel .ch4)
  | .s5ev1 => cfg.map.aEv1 (.mel .ch5)
  | .s6ev1 => cfg.map.aEv1 .noise
  | .s1ram => cfg.map.aRam .ch1
  | .s2ram => cfg.map.aRam .ch2
  | .s3ram => cfg.map.aRam .ch3
  | .s4ram => cfg.map.aRam .ch4
  | .s5ram => cfg.map.aRam .ch5
  | .s5swp => cfg.map.swp
  | .sstop => cfg.map.sstop
  | .undef a => a

/-- The instruction the decoder reads from a table word under the default configuration. The word of this hardware is
the notified address, one number of ADDR_W = 32 bits, bit 0 the least significant (30_encoding.md R90). -/
def decodeTableWord (nbits w : Nat) : Option Instr :=
  match decode Config.default (w % 2 ^ nbits) with
  | .ok i => some i
  | .error _ => none

end Sys2Proof
end

