-- ==== Sys2Proof/Machine/Fetch.lean ====
section
/-! DEFINITION. What comes before the actions of a step: the host's next action, the gate, the decode and the feedback
sample (30_encoding.md R95 lines 1 to 3, R111; 20_memory.md R61, R72, R73). -/

namespace Sys2Proof.Machine

/-- What the next host action asks of the machine. -/
inductive Fetch where
  /-- No instruction runs in this step. -/
  | quiet (s : State)
  /-- A notification was accepted: run this instruction. -/
  | run (i : Instr) (s : State)
  /-- The host's action is no action on this machine. -/
  | fault (f : Fault)
  /-- The host broke a premise. -/
  | refused (r : Refusal)
  deriving DecidableEq, Repr

/-- Replace the host's pending actions. -/
def State.setInbox (s : State) (acts : List HostAction) : State := { s with env := { s.env with inbox := acts } }

/-- A notification of `a`: refused after shutdown, nothing at all when the gate is closed; otherwise decode, then sample
the feedback (30_encoding.md R95; 47_global.md R262; 70_reset_and_hazards.md R323). -/
def accept (a : Nat) (s : State) : Fetch :=
  if !s.env.alive then .refused .afterShutdown
  else if !s.gateOpen then .quiet s
  else match decode s.env.cfg a with
    | .ok i => .run i s.sampleFeedback
    | .error .addressTooWide => .refused .addressTooWide

/-- The notifications the bus owes the block for a store of `n` bytes at `a`: one for each byte address that is a register
or lies in a region, ascending (20_memory.md R72); log 15. -/
def owedNotifications (m : AddrMap) (a : Nat) (n : Nat) : List HostAction :=
  ((List.range n).map (a + ·)).filterMap fun b => if m.mapped b then some (.notify b) else none

/-- The CPU's store of consecutive bytes: memory is updated, then the notifications are pending (20_memory.md R61, R72). -/
def State.storeBytes (s : State) (a : Nat) (bytes : List Byte) : State :=
  { s with env := { s.env with
      bus := s.env.bus.writeBytes a bytes
      inbox := owedNotifications s.env.cfg.map a bytes.length ++ s.env.inbox } }

/-- One host action (30_encoding.md R111; 00_scope.md R12). -/
def hostAction (act : HostAction) (s : State) : Fetch :=
  match act with
  | .st a v => if a < 2 ^ s.env.cfg.addrW then accept a (s.memWrite a v) else .fault .outsideAddressSpace
  | .notify a => accept a s
  | .poke a v => if a < 2 ^ s.env.cfg.addrW then .quiet (s.memWrite a v) else .fault .outsideAddressSpace
  | .store a bytes =>
    if a + bytes.length ≤ 2 ^ s.env.cfg.addrW then .quiet (s.storeBytes a bytes) else .fault .outsideAddressSpace
  | .fb f => .quiet { s with env := { s.env with backend := some f } }
  | .sndEn on => .quiet { s with env := { s.env with sndEn := on } }
  | .shutdown => if s.env.alive then .quiet s.shutdown else .refused .afterShutdown
  | .init ok => if s.env.alive then .refused .alreadyInitialised else .quiet (s.initialise ok)

/-- Take the host's next action; with none pending the block is idle (70_reset_and_hazards.md R311). -/
def fetch (s : State) : Fetch :=
  match s.env.inbox with
  | [] => .quiet s
  | act :: rest => hostAction act (s.setInbox rest)

/-- Make a notification of the address numbered by the low `nbits` bits of `w` the host's next action; log 3. -/
def queueWord (s : State) (nbits w : Nat) : State := s.setInbox (.notify (w % 2 ^ nbits) :: s.env.inbox)

end Sys2Proof.Machine
end

