-- ==== Sys2Proof/Machine/Step.lean ====
section
/-! DEFINITION. One step: the host's next action and, if it is an accepted notification, the actions of its row
(30_encoding.md R95; 00_scope.md R11). -/

namespace Sys2Proof.Machine

/-- One step of the machine. -/
def step (s : State) : Host.Outcome State Fault Refusal :=
  match fetch s with
  | .quiet t => .next t
  | .run i t => exec i t
  | .fault f => .fault f
  | .refused r => .refused r

/-- The state whose next step is the notification numbered `w`: the host has queued it in front; log 3. -/
def State.withFetchWord (s : State) (nbits w : Nat) : State := queueWord s nbits w

end Sys2Proof.Machine
end

