-- ==== Sys2Proof/Machine/Boot.lean ====
section
/-! DEFINITION. The boot contract's voices (70_reset_and_hazards.md R320, R321): what the backend holds before the first
step. No rule of the block reads it, and what commands make of it afterwards is the backend's (00_scope.md R4 b). -/

namespace Sys2Proof.Machine

/-- The voice identifier as a number, V1..V5 as 0..4 and N0..N7 as 5..12 (10_state.md R35). -/
def Voice.number : Voice → Fin 13
  | .V m => ⟨m.ix.val, by omega⟩
  | .N n => ⟨5 + n.val, by omega⟩

/-- A voice of the backend as it stands before the first step (70_reset_and_hazards.md R321). -/
structure BootVoice where
  voice : Voice
  /-- The bytes `create_voice` was given. -/
  buffer : List Byte
  /-- Whether the voice is playing. -/
  playing : Bool
  /-- In Hz. -/
  frequency : Rat
  volume : Fin 256
  pan : Fin 256
  position : Nat
  deriving DecidableEq, Repr

/-- A voice just created from a buffer: stopped; its frequency, volume, pan and position are open
(70_reset_and_hazards.md R321; log 18). -/
def createVoice (v : Voice) (buf : List Byte) : BootVoice where
  voice := v
  buffer := buf
  playing := false
  frequency := (Config.openVoiceFrequency v.number : Rat)
  volume := Config.openVoiceVolume v.number
  pan := Config.openVoicePan v.number
  position := Config.openVoicePosition v.number

/-- The thirteen voices, if initialisation succeeded: the melodic ones from open buffers, the noise voices from the
configuration's patterns (70_reset_and_hazards.md R320, R321). The order of the list, and that none is listed when
initialisation failed, are the model's; log 18. -/
def bootVoices (cfg : Config) (initOk : Bool) : List BootVoice :=
  if initOk then
    [Mel.ch1, .ch2, .ch3, .ch4, .ch5].map (fun m => createVoice (.V m) (Config.openMelodicBuffer m).toList) ++
      [(0 : NoiseIx), 1, 2, 3, 4, 5, 6, 7].map (fun n => createVoice (.N n) (cfg.noisePattern.get n))
  else []

end Sys2Proof.Machine
end

