-- ==== Sys2Proof/Safety.lean ====
section
/-! DEFINITION. The terms in which claims are made: legal commands (00_scope.md R9), the invariant (10_state.md R44), the
fields that feed back (R34), the bytes a step reads (20_memory.md R66), and the rules' arithmetic written once more over
plain numbers, independent of the definitions in Machine/Operands.lean. -/

namespace Sys2Proof.Machine

/-- Append commands to the stream, in order. -/
def State.emits (s : State) (cs : List Cmd) : State := { s with out := s.out ++ cs }

/-- The voice a command is addressed to (00_scope.md R9). -/
def Cmd.voice : Cmd → Voice
  | .upload v _ => v
  | .sweepFreq v _ _ => v
  | .setPos v _ => v
  | .start v => v
  | .stop v => v
  | .setFreq v _ => v
  | .setVol v _ => v
  | .setPan v _ => v
  | .rampVol v _ _ => v

/-- The argument ranges of 00_scope.md R9; an upload goes to a melodic voice (40_waveform_store.md R134,
41_channel_enable.md R151). -/
def Cmd.legal : Cmd → Prop
  | .upload v _ => ∃ m, v = .V m
  | .sweepFreq _ dur hz => 0 ≤ dur ∧ 0 ≤ hz
  | .setPos _ off => off = 0
  | .start _ => True
  | .stop _ => True
  | .setFreq _ hz => 0 < hz
  | .setVol _ _ => True
  | .setPan _ _ => True
  | .rampVol _ target dur => (target = 0 ∨ target = 255) ∧ 0 ≤ dur

/-- The ranges of a channel's fields (10_state.md R44 iii, v). -/
def Channel.inRange (c : Channel) : Prop :=
  c.volume.val ≤ 120 ∧ 8 ≤ c.pan.val ∧ c.pan.val ≤ 248 ∧
    (c.envelope.stepTime = 0 ∨ ∃ j : Nat, 1 ≤ j ∧ j ≤ 8 ∧ c.envelope.stepTime = 384 / 25 * (j : Rat)) ∧
    (c.sweep.intervalTime = 0 ∨ ∃ j : Nat, 1 ≤ j ∧ j ≤ 32 ∧ c.sweep.intervalTime = 96 / 25 * (j : Rat))

/-- What holds of every reachable state: 10_state.md R44 (i), (ii), (iii), (v), the command ranges of 00_scope.md R9, and
the memory's canonical form with every listed address in the address space (10_state.md R41). -/
structure State.Inv (s : State) : Prop where
  noisePlaying : s.blk.nsel.playing = (s.chan .noise).enabled
  sweepOnlyFull : ∀ x, x ≠ .full → (s.chan x).sweep.active = false ∧ (s.chan x).sweep.isModulation = false
  ranges : ∀ x, (s.chan x).inRange
  commands : ∀ c ∈ s.out, c.legal
  memory : s.env.bus.wf = true
  inSpace : ∀ cell ∈ s.env.bus, cell.1 < 2 ^ s.env.cfg.addrW

/-- Two states that differ at most in shadow fields: the fields that feed back into later outputs (10_state.md R34), the
surroundings and the commands so far are equal. -/
structure State.Agrees (s t : State) : Prop where
  enabled : ∀ x, (s.chan x).enabled = (t.chan x).enabled
  fullFrequency : (s.chan .full).frequencyReg = (t.chan .full).frequencyReg
  waveIndex : s.blk.waveIndex = t.blk.waveIndex
  dirty : s.blk.dirty = t.blk.dirty
  nsel : s.blk.nsel = t.blk.nsel
  failed : s.blk.failed = t.blk.failed
  out : s.out = t.out
  env : s.env = t.env

/-- The same machine over another bus memory. -/
def State.withBus (s : State) (m : Memory) : State := { s with env := { s.env with bus := m } }

/-- The same machine with another feedback sample for the step in progress. -/
def State.withSample (s : State) (f : Feedback) : State := { s with env := { s.env with sample := f } }

/-- The channel an instruction's register belongs to, if it belongs to one (00_scope.md R10, "the addressed channel"). -/
def channelOf (i : Instr) : Option Chan :=
  match i with
  | .wave0 _ => none
  | .wave1 _ => none
  | .wave2 _ => none
  | .wave3 _ => none
  | .wave4 _ => none
  | .moddata _ => none
  | .s1int => some (.mel .ch1)
  | .s2int => some (.mel .ch2)
  | .s3int => some (.mel .ch3)
  | .s4int => some (.mel .ch4)
  | .s5int => some (.mel .ch5)
  | .s6int => some .noise
  | .s1lrv => some (.mel .ch1)
  | .s2lrv => some (.mel .ch2)
  | .s3lrv => some (.mel .ch3)
  | .s4lrv => some (.mel .ch4)
  | .s5lrv => some (.mel .ch5)
  | .s6lrv => some .noise
  | .s1fql => some (.mel .ch1)
  | .s2fql => some (.mel .ch2)
  | .s3fql => some (.mel .ch3)
  | .s4fql => some (.mel .ch4)
  | .s5fql => some (.mel .ch5)
  | .s6fql => some .noise
  | .s1fqh => some (.mel .ch1)
  | .s2fqh => some (.mel .ch2)
  | .s3fqh => some (.mel .ch3)
  | .s4fqh => some (.mel .ch4)
  | .s5fqh => some (.mel .ch5)
  | .s6fqh => some .noise
  | .s1ev0 => some (.mel .ch1)
  | .s2ev0 => some (.mel .ch2)
  | .s3ev0 => some (.mel .ch3)
  | .s4ev0 => some (.mel .ch4)
  | .s5ev0 => some (.mel .ch5)
  | .s6ev0 => some .noise
  | .s1ev1 => some (.mel .ch1)
  | .s2ev1 => some (.mel .ch2)
  | .s3ev1 => some (.mel .ch3)
  | .s4ev1 => some (.mel .ch4)
  | .s5ev1 => some (.mel .ch5)
  | .s6ev1 => some .noise
  | .s1ram => some (.mel .ch1)
  | .s2ram => some (.mel .ch2)
  | .s3ram => some (.mel .ch3)
  | .s4ram => some (.mel .ch4)
  | .s5ram => some (.mel .ch5)
  | .s5swp => some (.mel .ch5)
  | .sstop => none
  | .undef _ => none

/-- The 32 sample addresses of a slot (20_memory.md R65). -/
def sampleAddrs (cfg : Config) (k : Slot) : List Nat := (List.finRange 32).map fun i => cfg.aSample k i

/-- The volume/pan/envelope bytes of channel x: SxEV1 only if EV0's enable bit is set (20_memory.md R66). -/
def envelopeReads (s : State) (x : Chan) : List Nat :=
  [s.map.aLrv x, s.map.aEv0 x] ++ if (s.ev0Byte x).getLsbD 0 then [s.map.aEv1 x] else []

/-- The sweep unit's bytes: S5SWP only if S5EV1's master bit is set and its modulation bit clear (20_memory.md R66). -/
def sweepReads (s : State) : List Nat :=
  [s.map.aEv1 .full] ++
    if (s.ev1Byte .full).getLsbD 6 && !(s.ev1Byte .full).getLsbD 4 then [s.map.swp] else []

/-- SxINT of a melodic channel, and the slot's samples on an enable transition with the slot dirty (20_memory.md R66). -/
def intReads (s : State) (m : Mel) : List Nat :=
  [s.map.aInt (.mel m)] ++
    if !(s.chan (.mel m)).enabled && (s.intByte (.mel m)).getLsbD 7 && s.dirty (s.waveIndex m) then
      sampleAddrs s.env.cfg (s.waveIndex m) else []

/-- SxRAM, and the selected slot's samples if the value is 0..4 and the channel is disabled (20_memory.md R66). -/
def ramReads (s : State) (m : Mel) : List Nat :=
  [s.map.aRam m] ++
    match legalIndex (ramWidx (s.ramByte m)) with
    | some w => if (s.chan (.mel m)).enabled then [] else sampleAddrs s.env.cfg w
    | none => []

/-- The bytes a step of each row reads: the table of 20_memory.md R66. -/
def reads (i : Instr) (s : State) : List Nat :=
  match i with
  | .wave0 _ => []
  | .wave1 _ => []
  | .wave2 _ => []
  | .wave3 _ => []
  | .wave4 _ => []
  | .moddata _ => []
  | .s1int => intReads s .ch1
  | .s2int => intReads s .ch2
  | .s3int => intReads s .ch3
  | .s4int => intReads s .ch4
  | .s5int => intReads s .ch5
  | .s6int => [s.map.aInt .noise]
  | .s1lrv => [s.map.aLrv (.mel .ch1), s.map.aEv0 (.mel .ch1)]
  | .s2lrv => [s.map.aLrv (.mel .ch2), s.map.aEv0 (.mel .ch2)]
  | .s3lrv => [s.map.aLrv (.mel .ch3), s.map.aEv0 (.mel .ch3)]
  | .s4lrv => [s.map.aLrv (.mel .ch4), s.map.aEv0 (.mel .ch4)]
  | .s5lrv => [s.map.aLrv (.mel .ch5), s.map.aEv0 (.mel .ch5)]
  | .s6lrv => [s.map.aLrv .noise, s.map.aEv0 .noise]
  | .s1fql => [s.map.aFql (.mel .ch1), s.map.aFqh (.mel .ch1)]
  | .s2fql => [s.map.aFql (.mel .ch2), s.map.aFqh (.mel .ch2)]
  | .s3fql => [s.map.aFql (.mel .ch3), s.map.aFqh (.mel .ch3)]
  | .s4fql => [s.map.aFql (.mel .ch4), s.map.aFqh (.mel .ch4)]
  | .s5fql => [s.map.aFql (.mel .ch5), s.map.aFqh (.mel .ch5)]
  | .s6fql => [s.map.aFql .noise, s.map.aFqh .noise]
  | .s1fqh => [s.map.aFql (.mel .ch1), s.map.aFqh (.mel .ch1)]
  | .s2fqh => [s.map.aFql (.mel .ch2), s.map.aFqh (.mel .ch2)]
  | .s3fqh => [s.map.aFql (.mel .ch3), s.map.aFqh (.mel .ch3)]
  | .s4fqh => [s.map.aFql (.mel .ch4), s.map.aFqh (.mel .ch4)]
  | .s5fqh => [s.map.aFql (.mel .ch5), s.map.aFqh (.mel .ch5)]
  | .s6fqh => [s.map.aFql .noise, s.map.aFqh .noise]
  | .s1ev0 => envelopeReads s (.mel .ch1)
  | .s2ev0 => envelopeReads s (.mel .ch2)
  | .s3ev0 => envelopeReads s (.mel .ch3)
  | .s4ev0 => envelopeReads s (.mel .ch4)
  | .s5ev0 => envelopeReads s (.mel .ch5)
  | .s6ev0 => envelopeReads s .noise
  | .s1ev1 => envelopeReads s (.mel .ch1)
  | .s2ev1 => envelopeReads s (.mel .ch2)
  | .s3ev1 => envelopeReads s (.mel .ch3)
  | .s4ev1 => envelopeReads s (.mel .ch4)
  | .s5ev1 => [s.map.aLrv .full, s.map.aEv0 .full] ++ sweepReads s
  | .s6ev1 => [s.map.aEv1 .noise, s.map.aLrv .noise, s.map.aEv0 .noise]
  | .s1ram => ramReads s .ch1
  | .s2ram => ramReads s .ch2
  | .s3ram => ramReads s .ch3
  | .s4ram => ramReads s .ch4
  | .s5ram => ramReads s .ch5
  | .s5swp => sweepReads s
  | .sstop => []
  | .undef _ => []

/-- Volume by rule: 2^hsb(left or right) x level, 0 for no bit set; `lrv` and `ev0` are byte values (42_volume_pan.md R171;
30_encoding.md R101, R103, R110). -/
def ruleVolume (lrv ev0 : Nat) : Nat :=
  let orv := (lrv / 16) ||| (lrv % 16)
  if orv = 0 then 0 else 2 ^ Nat.log2 orv * (ev0 / 16)

/-- Pan by rule, with no clamp: 128 + (left - right) x (8 << p), p = 3 - hsb or 4 (42_volume_pan.md R172). -/
def rulePan (lrv : Nat) : Int :=
  let orv := (lrv / 16) ||| (lrv % 16)
  128 + ((lrv / 16 : Nat) - (lrv % 16 : Nat) : Int) * (if orv = 0 then 128 else 2 ^ (6 - Nat.log2 orv))

/-- Ramp duration by rule: 15.36 x (r+1) x (distance / 16), the quotient floored if `floor` (43_envelope.md R192). -/
def ruleRamp (floor : Bool) (ev1 v : Nat) : Rat :=
  let d : Nat := if ev1 / 8 % 2 = 1 then 255 - v else v
  384 / 25 * ((ev1 % 8 : Nat) + 1 : Rat) * (if floor then ((d / 16 : Nat) : Rat) else (d : Rat) / 16)

/-- Sweep duration by rule; `w` is the byte of S5SWP, `f` the frequency code (44_sweep.md R212, R213; 30_encoding.md R108). -/
def ruleSweep (w f : Nat) : Rat :=
  let t : Rat := (if w / 128 % 2 = 1 then 192 / 25 else 24 / 25) * ((w / 16 % 8 : Nat) : Rat)
  let d : Nat := if w / 8 % 2 = 1 then 2047 - f else f
  (d : Rat) * t / ((w % 8 : Nat) + 1 : Rat)

/-- Rate by rule: clamped for CH1..CH5, not for CH6 (46_frequency.md R246). -/
def ruleRate (x : Chan) (c : Nat) : Rat :=
  match x with
  | .mel _ => 5000000 / (2048 - min c 2038 : Nat)
  | .noise => 500000 / (2048 - c : Nat)

/-- Frequency code by rule; arguments are the bytes of SxFQH and SxFQL (46_frequency.md R245; 30_encoding.md R102). -/
def ruleCode (fqh fql : Nat) : Nat := fqh % 8 * 256 + fql

end Sys2Proof.Machine
end

