-- ==== Sys2Proof/Certificates/Slice0/Obligations.lean ====
section
/-! DEFINITION. The statements for the provers. A statement that an instruction answers `.next` of a state written as
updates of `s` is its result and its frame at once: every field the updates do not name, and every byte of memory, is as
in `s`. `s.setChan x c` replaces the record of channel x alone and `s.emits cs` appends commands. Register values are
taken as plain numbers, so that field positions are the rules' and not the model's operand definitions. -/

open Sys2Proof Sys2Proof.Machine

/-! ## Encoding -/

/-- 30_encoding.md R90, R92, R93: for every allowed configuration, decoding the address of any well-formed instruction
gives it back. -/
def Obligations.DecodeOfEncodeIsTheInstruction : Prop :=
  ∀ (cfg : Config) (i : Instr), cfg.wf = true → i.wf cfg = true → decode cfg (encode cfg i) = .ok i

/-- 30_encoding.md R93: whatever a number decodes to is well formed and stands for exactly that number; no address bit is
ignored. -/
def Obligations.EncodeOfDecodeIsTheAddress : Prop :=
  ∀ (cfg : Config) (a : Nat) (i : Instr), decode cfg a = .ok i → i.wf cfg = true ∧ encode cfg i = a

/-- 30_encoding.md R90, R93: decode answers an instruction on every ADDR_W-bit number and on no other; that a wider number
is rejected is the model's choice (log 12). -/
def Obligations.DecodeAcceptsExactlyTheAddresses : Prop :=
  ∀ (cfg : Config) (a : Nat), (∃ i, decode cfg a = .ok i) ↔ a < 2 ^ cfg.addrW

/-- 30_encoding.md R92, R93 with the default map: a WAVEk or MODDATA row is taken exactly when the address's high 25 bits
are the row's, and the offset is its low 7 bits (mask 0xFFFFFF80). -/
def Obligations.DefaultRegionRowsAreTheirMasks : Prop :=
  ∀ a off : Nat, a < 2 ^ 32 →
    (∀ k : Slot, decode Config.default a = .ok (.waveOf k off) ↔ a / 128 = 131072 + k.val ∧ off = a % 128) ∧
    (decode Config.default a = .ok (.moddata off) ↔ a / 128 = 131077 ∧ off = a % 128)

/-- 95_test_vectors.md section 2.1 and 30_encoding.md R92: words of the table, one or more of each family, decode to their
rows; near misses and mirrors are UNDEF. -/
def Obligations.TableWordsDecode : Prop :=
  decodeTableWord 32 0x01000000 = some (.wave0 0) ∧ decodeTableWord 32 0x0100007F = some (.wave0 127) ∧
  decodeTableWord 32 0x010001FC = some (.wave3 124) ∧ decodeTableWord 32 0x01000280 = some (.moddata 0) ∧
  decodeTableWord 32 0x01000400 = some .s1int ∧ decodeTableWord 32 0x01000484 = some .s3lrv ∧
  decodeTableWord 32 0x010004C8 = some .s4fql ∧ decodeTableWord 32 0x0100054C = some .s6fqh ∧
  decodeTableWord 32 0x01000450 = some .s2ev0 ∧ decodeTableWord 32 0x010004D4 = some .s4ev1 ∧
  decodeTableWord 32 0x01000514 = some .s5ev1 ∧ decodeTableWord 32 0x01000554 = some .s6ev1 ∧
  decodeTableWord 32 0x01000518 = some .s5ram ∧ decodeTableWord 32 0x0100051C = some .s5swp ∧
  decodeTableWord 32 0x01000580 = some .sstop ∧ decodeTableWord 32 0x01000401 = some (.undef 0x01000401) ∧
  decodeTableWord 32 0x01000558 = some (.undef 0x01000558) ∧ decodeTableWord 32 0x05000400 = some (.undef 0x05000400)

/-- 00_scope.md R5, 20_memory.md R65, 30_encoding.md R92: the default configuration is allowed and its addresses are those
of R65's formulas. -/
def Obligations.DefaultMapIsAllowedAndRegular : Prop :=
  Config.default.wf = true ∧
  (∀ x : Chan, let m := AddrMap.default; let base := 0x01000400 + 0x40 * x.ix.val
    m.aInt x = base ∧ m.aLrv x = base + 0x04 ∧ m.aFql x = base + 0x08 ∧ m.aFqh x = base + 0x0C ∧
    m.aEv0 x = base + 0x10 ∧ m.aEv1 x = base + 0x14) ∧
  (∀ x : Mel, AddrMap.default.aRam x = 0x01000400 + 0x40 * x.ix.val + 0x18) ∧
  (∀ (k : Slot) (i : Fin 32), Config.default.aSample k i = 0x01000000 + 0x80 * k.val + 4 * i.val) ∧
  AddrMap.default.swp = 0x0100051C ∧ AddrMap.default.sstop = 0x01000580

/-! ## The step -/

/-- 30_encoding.md R95: with the gate open, the step of a notification of `a`, alone or after the CPU's write of that byte,
is `exec` of the decoded instruction, on the state with the action taken from the inbox, the byte written, and the
feedback sampled. -/
def Obligations.StepRunsTheDecodedInstruction : Prop :=
  ∀ (s : State) (a : Nat) (i : Instr) (rest : List HostAction),
    s.env.alive = true → s.env.sndEn = true → s.blk.failed = false → decode s.env.cfg a = .ok i →
    (s.env.inbox = .notify a :: rest → step s = exec i (s.setInbox rest).sampleFeedback) ∧
    (∀ v : Byte, s.env.inbox = .st a v :: rest → step s = exec i ((s.setInbox rest).memWrite a v).sampleFeedback)

/-- 00_scope.md R10 and 30_encoding.md R111: the sample is the scripted answer if there is one, else a fresh free draw, and
nothing but the sample and the draw counter changes. The counter and the script are the model's (log 4). -/
def Obligations.FeedbackIsSampledOnce : Prop :=
  ∀ s : State,
    (∀ f, s.env.backend = some f →
      s.sampleFeedback = { s with env := { s.env with sample := f, draws := s.env.draws + 1 } }) ∧
    (s.env.backend = none →
      s.sampleFeedback.env.sample.vol = Config.freeVol s.env.draws ∧
      s.sampleFeedback.env.sample.freq = (Config.freeFreq s.env.draws : Rat) ∧
      s.sampleFeedback.env.draws = s.env.draws + 1 ∧
      s.sampleFeedback =
        { s with env := { s.env with sample := s.sampleFeedback.env.sample, draws := s.env.draws + 1 } })

/-- 47_global.md R262: with `snd_en` off or `failed` set, a notification has no effect of any kind: the action leaves the
inbox, a CPU write that came with it stays in memory, and everything else is unchanged. -/
def Obligations.ClosedGateStepDoesNothing : Prop :=
  ∀ (s : State) (a : Nat) (rest : List HostAction),
    s.env.alive = true → (s.env.sndEn = false ∨ s.blk.failed = true) →
    (s.env.inbox = .notify a :: rest → step s = .next (s.setInbox rest)) ∧
    (∀ v : Byte, s.env.inbox = .st a v :: rest → a < 2 ^ s.env.cfg.addrW →
      step s = .next ((s.setInbox rest).memWrite a v))

/-- 20_memory.md R60, R61: after the step of a CPU write with its notification, memory holds the written byte at that
address and every other byte as before. -/
def Obligations.WrittenByteStandsAfterTheStep : Prop :=
  ∀ (s t : State) (a : Nat) (v : Byte) (rest : List HostAction),
    s.env.bus.wf = true → s.env.inbox = .st a v :: rest → step s = .next t →
    t.memRead a = v ∧ ∀ b, b ≠ a → t.memRead b = s.memRead b

/-- 20_memory.md R73: a memory change without a notification is no step of the block: one byte changes, no flag, no field,
no command. The spec marks R73 as its own inference; that such a change is a step of the machine is the model's (log 20). -/
def Obligations.UnnotifiedWriteIsInvisible : Prop :=
  ∀ (s : State) (a : Nat) (v : Byte) (rest : List HostAction),
    s.env.bus.wf = true → s.env.inbox = .poke a v :: rest → a < 2 ^ s.env.cfg.addrW →
    ∃ t, step s = .next t ∧ t.blk = s.blk ∧ t.out = s.out ∧ t.env.inbox = rest ∧ t.memRead a = v ∧
      ∀ b, b ≠ a → t.memRead b = s.memRead b

/-- 20_memory.md R72: a CPU store of consecutive bytes updates memory, then leaves pending one notification for each stored
byte address that is a register or lies in a region, in ascending order; the block itself does nothing in that step. That
each stored byte counts as changed, and that the modulation-data region counts as a region, is the model's reading
(log 15). -/
def Obligations.WideStoreOwesOneNotificationPerMappedByte : Prop :=
  ∀ (s : State) (a : Nat) (bytes : List Byte) (rest : List HostAction),
    s.env.bus.wf = true → s.env.inbox = .store a bytes :: rest → a + bytes.length ≤ 2 ^ s.env.cfg.addrW →
    ∃ (t : State) (addrs : List Nat), step s = .next t ∧ t.blk = s.blk ∧ t.out = s.out ∧
      t.env.inbox = addrs.map .notify ++ rest ∧ addrs.Pairwise (· < ·) ∧
      (∀ b, b ∈ addrs ↔ (a ≤ b ∧ b < a + bytes.length) ∧ s.map.mapped b = true) ∧
      (∀ (n : Nat) (h : n < bytes.length), t.memRead (a + n) = bytes[n]) ∧
      (∀ b, ¬ (a ≤ b ∧ b < a + bytes.length) → t.memRead b = s.memRead b)

/-- 60_exceptions.md R280, R290; 00_scope.md R11: every step of an existing block on an existing address answers a next
state. The spec marks R290 as its own inference. -/
def Obligations.NotificationsNeverStopTheMachine : Prop :=
  ∀ (s : State) (a : Nat) (rest : List HostAction), s.env.alive = true → a < 2 ^ s.env.cfg.addrW →
    (s.env.inbox = .notify a :: rest ∨ ∃ v, s.env.inbox = .st a v :: rest) → ∃ t, step s = .next t

/-- 00_scope.md R9, R11; 10_state.md R20, R37; 20_memory.md R60: every instruction, in every state, answers a next state;
it leaves memory, inputs, configuration and `failed` alone and only appends legal commands. -/
def Obligations.EveryInstructionCompletesAndOnlyEmits : Prop :=
  ∀ (i : Instr) (s : State), ∃ t cs, exec i s = .next t ∧ t.env = s.env ∧ (∀ a, t.memRead a = s.memRead a) ∧
    t.blk.failed = s.blk.failed ∧ t.out = s.out ++ cs ∧ ∀ c ∈ cs, c.legal

/-- 20_memory.md R68 (iv), which the spec marks as derived from (i): no step takes back or reorders a command already
emitted. That the machine keeps the stream as a history a step appends to is the model's choice (DESIGN CHOICE, log 2),
which 10_state.md R37 permits. -/
def Obligations.StepsOnlyAppendCommands : Prop :=
  ∀ s t : State, step s = .next t → ∃ cs, t.out = s.out ++ cs

/-! ## Waveform store -/

/-- 40_waveform_store.md R130: every byte address of slot k's region is WAVEk, and WAVEk sets `dirty[k]` and nothing else. -/
def Obligations.SoundRamWriteMarksItsSlot : Prop :=
  ∀ (k : Slot) (off : Nat) (s : State),
    (s.env.cfg.wf = true → off < 0x80 → decode s.env.cfg (s.map.aWave k + off) = .ok (.waveOf k off)) ∧
    ∃ t, exec (.waveOf k off) s = .next t ∧ t.dirty k = true ∧ (∀ j, j ≠ k → t.dirty j = s.dirty j) ∧
      t = { s with blk := { s.blk with dirty := t.blk.dirty } }

/-- 40_waveform_store.md R131: every byte address of the modulation-data region is MODDATA, which sets the flags
MODDATA_DIRTY_MASK selects and nothing else; with the default mask, all five. -/
def Obligations.ModulationDataWriteMarksTheMask : Prop :=
  ∀ (off : Nat) (s : State),
    (s.env.cfg.wf = true → off < s.env.cfg.map.modBytes →
      decode s.env.cfg (s.map.modFirst + off) = .ok (.moddata off)) ∧
    ∃ t, exec (.moddata off) s = .next t ∧
    (∀ j : Slot, t.dirty j = (s.dirty j || s.env.cfg.modDirtyMask.getLsbD j.val)) ∧
    (s.env.cfg.modDirtyMask = 0b11111 → ∀ j, t.dirty j = true) ∧
    t = { s with blk := { s.blk with dirty := t.blk.dirty } }

/-- 40_waveform_store.md R132: `Convert(k)`: sample i comes from the byte at A_WAVE(k) + WAVE_STRIDE x i, low six bits, shifted
left by two, bit 7 flipped; read as two's complement it is 4 x raw - 128, which R132 marks as its own inference. -/
def Obligations.ConvertReadsTheSlot : Prop :=
  ∀ (k : Slot) (s : State) (i : Fin 32),
    let raw := (s.memRead (s.map.aWave k + s.env.cfg.waveStride * i.val)).toNat % 64
    ((convert k s).get i).toNat = (raw * 4) ^^^ 0x80 ∧ ((convert k s).get i).toInt = 4 * (raw : Int) - 128

/-- 40_waveform_store.md R136: (P1) the conversion formula on 0..63 and its injectivity; (P2) on an enable transition with
the slot dirty, the flag is clear afterwards and the upload carries the freshly converted slot. The spec marks R136 as its own
inference. -/
def Obligations.ConversionAndEnableUpload : Prop :=
  (∀ v : Byte, v.toNat < 64 → convertSample v = (v <<< 2) ^^^ 0x80#8) ∧
  (∀ v w : Byte, v.toNat < 64 → w.toNat < 64 → convertSample v = convertSample w → v = w) ∧
  (∀ (m : Mel) (s : State), (s.chan (.mel m)).enabled = false → 128 ≤ (s.intByte (.mel m)).toNat →
    s.dirty (s.waveIndex m) = true →
    ∃ t cs, exec (.intOf (.mel m)) s = .next t ∧ t.dirty (s.waveIndex m) = false ∧ t.out = s.out ++ cs ∧
      .upload (.V m) (convert (s.waveIndex m) s) ∈ cs)

/-- 40_waveform_store.md R133, R134: a legal pointer value is stored at once; on a disabled channel the slot is recopied and
uploaded whether or not it is dirty; on an enabled one nothing more happens. -/
def Obligations.LegalPointerWrite : Prop :=
  ∀ (m : Mel) (s : State) (w : Slot), (s.ramByte m).toNat % 16 = w.val →
    (s.env.cfg.wf = true → decode s.env.cfg (s.map.aRam m) = .ok (.ramOf m)) ∧
    ((s.chan (.mel m)).enabled = false →
      exec (.ramOf m) s = .next (((s.setWaveIndex m w).setDirty w false).emits [.upload (.V m) (convert w s)])) ∧
    ((s.chan (.mel m)).enabled = true → exec (.ramOf m) s = .next (s.setWaveIndex m w))

/-- 40_waveform_store.md R135: a pointer value 5..15 is ignored: no state change, no command. -/
def Obligations.OutOfRangePointerIsIgnored : Prop :=
  ∀ (m : Mel) (s : State), 5 ≤ (s.ramByte m).toNat % 16 → exec (.ramOf m) s = .next s

/-- 20_memory.md R70: a voice's buffer is uploaded only while its channel is disabled, with the slot the channel then names,
as memory holds it, and leaves that slot clean. -/
def Obligations.UploadsOnlyWhileDisabled : Prop :=
  ∀ (i : Instr) (s t : State) (cs : List Cmd) (v : Voice) (buf : Vector Byte 32),
    exec i s = .next t → t.out = s.out ++ cs → .upload v buf ∈ cs →
    ∃ m, v = .V m ∧ (s.chan (.mel m)).enabled = false ∧ buf = convert (t.waveIndex m) s ∧
      t.dirty (t.waveIndex m) = false

/-- 10_state.md R30, 20_memory.md R71: a dirty flag is cleared only together with an upload of that slot's fresh
conversion. -/
def Obligations.DirtyIsClearedOnlyByRecopy : Prop :=
  ∀ (i : Instr) (s t : State) (cs : List Cmd) (k : Slot),
    exec i s = .next t → t.out = s.out ++ cs → s.dirty k = true → t.dirty k = false →
    ∃ m, .upload (.V m) (convert k s) ∈ cs

/-- 70_reset_and_hazards.md R331: of two channels that use one dirty slot, the first to be keyed on receives the upload and
the other receives none. The spec marks R331 as its own inference. -/
def Obligations.SharedDirtyFlagUploadsOnce : Prop :=
  ∀ (m n : Mel) (s t u : State), m ≠ n → s.waveIndex m = s.waveIndex n → s.dirty (s.waveIndex m) = true →
    (s.chan (.mel m)).enabled = false → (s.chan (.mel n)).enabled = false →
    128 ≤ (s.intByte (.mel m)).toNat → 128 ≤ (s.intByte (.mel n)).toNat →
    exec (.intOf (.mel m)) s = .next t → exec (.intOf (.mel n)) t = .next u →
    (u.chan (.mel n)).enabled = true ∧
    ∃ cs ds, t.out = s.out ++ cs ∧ .upload (.V m) (convert (s.waveIndex m) s) ∈ cs ∧ u.out = t.out ++ ds ∧
      ∀ v buf, .upload v buf ∉ ds

/-! ## Channel enable -/

/-- 41_channel_enable.md R150, R151 (with R152, R153, R154, R156 for x = 1..5): the three cases of SxINT on a melodic channel;
bit 7 is `b / 128`, bit 5 is `b / 32 % 2`, `iv` is `b % 32`. -/
def Obligations.MelodicEnableMachine : Prop :=
  ∀ (m : Mel) (s : State),
    let x : Chan := .mel m
    let b := (s.intByte x).toNat
    let c := s.chan x
    let k := s.waveIndex m
    let T : Rat := 96 / 25 * ((b % 32 : Nat) + 1 : Rat)
    (s.env.cfg.wf = true → decode s.env.cfg (s.map.aInt x) = .ok (.intOf x)) ∧
    (c.enabled = false → b / 128 = 1 →
      exec (.intOf x) s = .next
        (((if s.dirty k then s.setDirty k false else s).setChan x { c with
            enabled := true
            sweep := { c.sweep with intervalTime := if b / 32 % 2 = 1 then T else c.sweep.intervalTime } }).emits
          ((if s.dirty k then [.upload (.V m) (convert k s)] else []) ++
            (if b / 32 % 2 = 1 then [.sweepFreq (.V m) T s.env.sample.freq] else []) ++
            [.setPos (.V m) 0, .start (.V m)]))) ∧
    (c.enabled = true → b / 128 = 0 →
      exec (.intOf x) s = .next ((s.setChan x { c with enabled := false }).emits [.stop (.V m)])) ∧
    (c.enabled = decide (b / 128 = 1) → exec (.intOf x) s = .next s)

/-- 41_channel_enable.md R155 (with R152, R153, R154, R156 for x = 6): the three cases of S6INT; no upload, the selected
noise voice, and `nsel.playing` follows. -/
def Obligations.NoiseEnableMachine : Prop :=
  ∀ s : State,
    let b := (s.intByte .noise).toNat
    let c := s.chan .noise
    let v : Voice := .N s.blk.nsel.active
    let T : Rat := 96 / 25 * ((b % 32 : Nat) + 1 : Rat)
    (s.env.cfg.wf = true → decode s.env.cfg (s.map.aInt .noise) = .ok .s6int) ∧
    (c.enabled = false → b / 128 = 1 →
      exec .s6int s = .next
        (((s.setChan .noise { c with
            enabled := true
            sweep := { c.sweep with intervalTime := if b / 32 % 2 = 1 then T else c.sweep.intervalTime } }).setPlaying
          true).emits
          ((if b / 32 % 2 = 1 then [.sweepFreq v T s.env.sample.freq] else []) ++ [.setPos v 0, .start v]))) ∧
    (c.enabled = true → b / 128 = 0 →
      exec .s6int s = .next (((s.setChan .noise { c with enabled := false }).setPlaying false).emits [.stop v])) ∧
    (c.enabled = decide (b / 128 = 1) → exec .s6int s = .next s)

/-- 41_channel_enable.md R157: `enabled` of a channel is changed by its own SxINT alone, and equals bit 7 of that byte after
it. -/
def Obligations.OnlyItsOwnRegisterEnablesAChannel : Prop :=
  ∀ (x : Chan) (i : Instr) (s t : State), exec i s = .next t →
    (i ≠ .intOf x → (t.chan x).enabled = (s.chan x).enabled) ∧
    (i = .intOf x → (t.chan x).enabled = decide (128 ≤ (s.intByte x).toNat))

/-- 70_reset_and_hazards.md R333, 47_global.md R260 (i): after a global stop an enabled channel is still enabled, so SxINT with
bit 7 set restarts nothing. The spec marks R333 as its own inference. -/
def Obligations.NoRetriggerAfterGlobalStop : Prop :=
  ∀ (x : Chan) (s t : State), (s.chan x).enabled = true → 128 ≤ (s.intByte x).toNat → exec .sstop s = .next t →
    (t.chan x).enabled = true ∧ exec (.intOf x) t = .next t

/-! ## Volume, pan, envelope, sweep, noise, frequency, stop -/

/-- 42_volume_pan.md R170 to R174: SxLRV derives volume and pan from SxLRV and SxEV0, stores them, and sends volume, then
pan. The volume is at most 120; the pan needs no clamp, lies in 8..248 and is 128 exactly when left = right, which R172 marks
as its own inference. -/
def Obligations.LevelWriteDerivesVolumeAndPan : Prop :=
  ∀ (x : Chan) (s : State), ∃ V P : Fin 256,
    V.val = ruleVolume (s.lrvByte x).toNat (s.ev0Byte x).toNat ∧ (P.val : Int) = rulePan (s.lrvByte x).toNat ∧
    V.val ≤ 120 ∧ 8 ≤ P.val ∧ P.val ≤ 248 ∧ (P.val = 128 ↔ (s.lrvByte x).toNat / 16 = (s.lrvByte x).toNat % 16) ∧
    (s.env.cfg.wf = true → decode s.env.cfg (s.map.aLrv x) = .ok (.lrvOf x)) ∧
    exec (.lrvOf x) s = .next
      ((s.setChan x { s.chan x with volume := V, pan := P }).emits [.setVol (s.voice x) V, .setPan (s.voice x) P])

/-- 43_envelope.md R193, R194: SxEV0 (x = 1..6) and SxEV1 (x = 1..4) derive volume and pan, then evaluate the envelope: with
EV0 bit 0 clear only `active` is cleared; with it set one ramp of the rule's target and duration is sent and the four
shadow fields record it. -/
def Obligations.EnvelopeRegisterWrite : Prop :=
  ∀ (i : Instr) (x : Chan) (s : State), (i = .ev0Of x ∨ (i = .ev1Of x ∧ x ≠ .full ∧ x ≠ .noise)) →
    (s.env.cfg.wf = true →
      decode s.env.cfg (s.map.aEv0 x) = .ok (.ev0Of x) ∧ decode s.env.cfg (s.map.aEv1 x) = .ok (.ev1Of x)) ∧
    ∃ V P : Fin 256,
      V.val = ruleVolume (s.lrvByte x).toNat (s.ev0Byte x).toNat ∧ (P.val : Int) = rulePan (s.lrvByte x).toNat ∧
      let c := s.chan x
      let e := (s.ev1Byte x).toNat
      let grow : Bool := decide (e / 8 % 2 = 1)
      ((s.ev0Byte x).toNat % 2 = 0 → exec i s = .next
        ((s.setChan x { c with volume := V, pan := P, envelope := { c.envelope with active := false } }).emits
          [.setVol (s.voice x) V, .setPan (s.voice x) P])) ∧
      ((s.ev0Byte x).toNat % 2 = 1 → exec i s = .next
        ((s.setChan x { c with volume := V, pan := P, envelope :=
            { active := true, growing := grow, stepTime := 384 / 25 * ((e % 8 : Nat) + 1 : Rat),
              currentLevel := s.env.sample.vol } }).emits
          [.setVol (s.voice x) V, .setPan (s.voice x) P,
           .rampVol (s.voice x) (if grow then 255 else 0) (ruleRamp s.env.cfg.div16Floor e s.env.sample.vol.val)]))

/-- 44_sweep.md R216: S5SWP refreshes the two gate bits; with the master bit set and the modulation bit clear it sends one
sweep of the rule's duration to 500000 Hz or 78125/32 Hz; `frequency_reg` does not move. -/
def Obligations.SweepControlWrite : Prop :=
  ∀ s : State,
    let c := s.chan .full
    let e := (s.ev1Byte .full).toNat
    let w := s.swpByte.toNat
    let s' := s.setChan .full { c with sweep :=
      { c.sweep with active := decide (e / 64 % 2 = 1), isModulation := decide (e / 16 % 2 = 1) } }
    (s.env.cfg.wf = true → decode s.env.cfg s.map.swp = .ok .s5swp) ∧
    (¬ (e / 64 % 2 = 1 ∧ e / 16 % 2 = 0) → exec .s5swp s = .next s') ∧
    (e / 64 % 2 = 1 ∧ e / 16 % 2 = 0 → exec .s5swp s = .next
      (s'.emits [.sweepFreq (.V .ch5) (ruleSweep w c.frequencyReg.val)
        (if w / 8 % 2 = 1 then 500000 else 78125 / 32)]))

/-- 44_sweep.md R215: S5EV1 runs volume/pan, envelope and sweep, in this order, from one byte. -/
def Obligations.FullChannelEnvelopeWrite : Prop :=
  ∀ s : State, ∃ V P : Fin 256,
    V.val = ruleVolume (s.lrvByte .full).toNat (s.ev0Byte .full).toNat ∧
    (P.val : Int) = rulePan (s.lrvByte .full).toNat ∧
    (s.env.cfg.wf = true → decode s.env.cfg (s.map.aEv1 .full) = .ok .s5ev1) ∧
    let c := s.chan .full
    let e := (s.ev1Byte .full).toNat
    let w := s.swpByte.toNat
    let v : Voice := .V .ch5
    let grow : Bool := decide (e / 8 % 2 = 1)
    exec .s5ev1 s = .next
      ((s.setChan .full { c with
          volume := V
          pan := P
          envelope := if (s.ev0Byte .full).toNat % 2 = 1 then
              { active := true, growing := grow, stepTime := 384 / 25 * ((e % 8 : Nat) + 1 : Rat),
                currentLevel := s.env.sample.vol }
            else { c.envelope with active := false }
          sweep := { c.sweep with active := decide (e / 64 % 2 = 1), isModulation := decide (e / 16 % 2 = 1) } }).emits
        ([.setVol v V, .setPan v P] ++
          (if (s.ev0Byte .full).toNat % 2 = 1 then
            [.rampVol v (if grow then 255 else 0) (ruleRamp s.env.cfg.div16Floor e s.env.sample.vol.val)] else []) ++
          (if e / 64 % 2 = 1 ∧ e / 16 % 2 = 0 then
            [.sweepFreq v (ruleSweep w c.frequencyReg.val) (if w / 8 % 2 = 1 then 500000 else 78125 / 32)] else [])))

/-- 45_noise_select.md R232 (with R231): S6EV1 switches the noise voice if the selection changed (stop the old one; start the
new one from zero if playing), then derives volume, pan and envelope on the newly selected voice. -/
def Obligations.NoiseVoiceWrite : Prop :=
  ∀ s : State, ∃ (N : NoiseIx) (V P : Fin 256),
    N.val = (s.ev1Byte .noise).toNat / 16 % 8 ∧
    V.val = ruleVolume (s.lrvByte .noise).toNat (s.ev0Byte .noise).toNat ∧
    (P.val : Int) = rulePan (s.lrvByte .noise).toNat ∧
    (s.env.cfg.wf = true → decode s.env.cfg (s.map.aEv1 .noise) = .ok .s6ev1) ∧
    let c := s.chan .noise
    let e := (s.ev1Byte .noise).toNat
    let old := s.blk.nsel.active
    let grow : Bool := decide (e / 8 % 2 = 1)
    exec .s6ev1 s = .next
      (((s.setNoiseActive N).setChan .noise { c with
          volume := V
          pan := P
          envelope := if (s.ev0Byte .noise).toNat % 2 = 1 then
              { active := true, growing := grow, stepTime := 384 / 25 * ((e % 8 : Nat) + 1 : Rat),
                currentLevel := s.env.sample.vol }
            else { c.envelope with active := false } }).emits
        ((if N = old then [] else
            .stop (.N old) :: if s.blk.nsel.playing then [.setPos (.N N) 0, .start (.N N)] else []) ++
          [.setVol (.N N) V, .setPan (.N N) P] ++
          (if (s.ev0Byte .noise).toNat % 2 = 1 then
            [.rampVol (.N N) (if grow then 255 else 0) (ruleRamp s.env.cfg.div16Floor e s.env.sample.vol.val)]
            else [])))

/-- 46_frequency.md R245, R246, R247, R248: either half of the pair assembles the code from both bytes in memory, stores it
unclamped and sends the rate, clamped on CH1..CH5 only. -/
def Obligations.FrequencyWrite : Prop :=
  ∀ (i : Instr) (x : Chan) (s : State), (i = .fqlOf x ∨ i = .fqhOf x) →
    (s.env.cfg.wf = true →
      decode s.env.cfg (s.map.aFql x) = .ok (.fqlOf x) ∧ decode s.env.cfg (s.map.aFqh x) = .ok (.fqhOf x)) ∧
    ∃ C : Fin 2048, C.val = ruleCode (s.fqhByte x).toNat (s.fqlByte x).toNat ∧
      exec i s = .next ((s.setChan x { s.chan x with frequencyReg := C }).emits
        [.setFreq (s.voice x) (ruleRate x C.val)])

/-- 47_global.md R260, R263: SSTOP emits six stops in channel order and changes nothing else. The spec marks R263
as its own inference from R260. -/
def Obligations.GlobalStopOnlyStops : Prop :=
  ∀ s : State, (s.env.cfg.wf = true → decode s.env.cfg s.map.sstop = .ok .sstop) ∧
    exec .sstop s = .next (s.emits [.stop (.V .ch1), .stop (.V .ch2), .stop (.V .ch3), .stop (.V .ch4),
    .stop (.V .ch5), .stop (.N s.blk.nsel.active)])

/-- 47_global.md R261: UNDEF does nothing, and with the gate open or closed the step of a notification of any unmapped
address changes no field of the block, no byte of memory, and emits nothing. -/
def Obligations.UndefinedAddressIsIgnored : Prop :=
  (∀ (a : Nat) (s : State), exec (.undef a) s = .next s) ∧
  (∀ (s : State) (a : Nat) (rest : List HostAction), s.env.alive = true → s.env.inbox = .notify a :: rest →
    a < 2 ^ s.env.cfg.addrW → s.map.mapped a = false →
    ∃ t, step s = .next t ∧ t.blk = s.blk ∧ t.out = s.out ∧ t.env.inbox = rest ∧ ∀ b, t.memRead b = s.memRead b)

/-- 00_scope.md R7, 43_envelope.md R195, 44_sweep.md R217, 41_channel_enable.md R152: every duration lies between 0 and the
stated largest value and is an integer multiple of 1/84000 DU. The spec marks the bounds and the 1/84000 as its own
inferences. -/
def Obligations.DurationsAreBoundedMultiples : Prop :=
  (∀ b : Byte, 0 < intervalDuration b ∧ intervalDuration b ≤ 3072 / 25 ∧
    ∃ n : Nat, intervalDuration b * 84000 = (n : Rat)) ∧
  (∀ (fl : Bool) (b : Byte) (v : Fin 256), 0 ≤ rampDuration fl b v ∧ rampDuration fl b v ≤ 9792 / 5 ∧
    ∃ n : Nat, rampDuration fl b v * 84000 = (n : Rat)) ∧
  (∀ (b : Byte) (f : Fin 2048), 0 ≤ sweepDuration b f ∧ sweepDuration b f ≤ 2751168 / 25 ∧
    ∃ n : Nat, sweepDuration b f * 84000 = (n : Rat))

/-! ## Whole-machine rules -/

/-- 10_state.md R22 to R28, R30, R33, R36: each field of the block is written only by the rows the rules list for it; no row
writes `failed`, and a dirty flag is cleared only by the SxINT or SxRAM of a melodic channel whose slot it is then. -/
def Obligations.FieldsAreWrittenOnlyByTheirRows : Prop :=
  ∀ (i : Instr) (s t : State), exec i s = .next t →
    (∀ x, i ≠ .fqlOf x → i ≠ .fqhOf x → (t.chan x).frequencyReg = (s.chan x).frequencyReg) ∧
    (∀ m, i ≠ .ramOf m → t.waveIndex m = s.waveIndex m) ∧
    (∀ x, i ≠ .lrvOf x → i ≠ .ev0Of x → i ≠ .ev1Of x →
      (t.chan x).volume = (s.chan x).volume ∧ (t.chan x).pan = (s.chan x).pan) ∧
    (∀ x, i ≠ .ev0Of x → i ≠ .ev1Of x → (t.chan x).envelope = (s.chan x).envelope) ∧
    (∀ x, i ≠ .intOf x → (t.chan x).sweep.intervalTime = (s.chan x).sweep.intervalTime) ∧
    (∀ x, x ≠ .full ∨ (i ≠ .s5ev1 ∧ i ≠ .s5swp) →
      (t.chan x).sweep.active = (s.chan x).sweep.active ∧
      (t.chan x).sweep.isModulation = (s.chan x).sweep.isModulation) ∧
    (i ≠ .s6ev1 → t.blk.nsel.active = s.blk.nsel.active) ∧
    (i ≠ .s6int → t.blk.nsel.playing = s.blk.nsel.playing) ∧
    (∀ k, s.dirty k = false → t.dirty k = true →
      (∃ off, i = .waveOf k off) ∨ ∃ off, i = .moddata off ∧ s.env.cfg.modDirtyMask.getLsbD k.val = true) ∧
    (∀ k, s.dirty k = true → t.dirty k = false →
      ∃ m, (i = .intOf (.mel m) ∨ i = .ramOf m) ∧ t.waveIndex m = k) ∧
    (∀ x, i ≠ .intOf x → (t.chan x).enabled = (s.chan x).enabled) ∧
    t.blk.failed = s.blk.failed

/-- 10_state.md R21 to R28, R35; 30_encoding.md R95; 45_noise_select.md R230; 00_scope.md R9: a row of channel x changes no
other channel's record, waveform index included, and sends commands only to x's voice, as it was or (for CH6) as it
becomes; a row of no channel changes no channel and, unless it is SSTOP, sends nothing. -/
def Obligations.OnlyTheAddressedChannelIsTouched : Prop :=
  ∀ (i : Instr) (s t : State) (cs : List Cmd), exec i s = .next t → t.out = s.out ++ cs →
    (∀ x, channelOf i = some x →
      (∀ y, y ≠ x → t.chan y = s.chan y) ∧ (∀ m, .mel m ≠ x → t.waveIndex m = s.waveIndex m) ∧
      ∀ c ∈ cs, c.voice = s.voice x ∨ c.voice = t.voice x) ∧
    (channelOf i = none →
      (∀ y, t.chan y = s.chan y) ∧ (∀ m, t.waveIndex m = s.waveIndex m) ∧ (i = .sstop ∨ cs = []))

/-- 20_memory.md R66: what a step does depends on no byte of memory but those its row reads: over any other memory with the
same bytes there it does the same. The spec marks R66 as its own inference. -/
def Obligations.OnlyTheListedBytesMatter : Prop :=
  ∀ (i : Instr) (s : State) (m : Memory), (∀ a ∈ reads i s, m.read a = s.memRead a) →
    ∃ t, exec i s = .next t ∧ exec i (s.withBus m) = .next (t.withBus m)

/-- 00_scope.md R10: `FbFreq` reaches only SxINT and `FbVol` only SxEV0 and SxEV1; any other instruction does the same
whatever the samples are. -/
def Obligations.FeedbackReachesOnlyItsTwoUses : Prop :=
  ∀ (i : Instr) (s t : State) (f : Feedback), exec i s = .next t →
    (∀ x, i = .intOf x → f.freq = s.env.sample.freq) →
    (∀ x, i = .ev0Of x ∨ i = .ev1Of x → f.vol = s.env.sample.vol) →
    exec i (s.withSample f) = .next (t.withSample f)

/-- 10_state.md R34: shadow fields never reach an output: from two states that differ at most in them, every step emits the
same commands, stops alike, and leaves states that differ at most in them. The spec marks R34 as its own inference. -/
def Obligations.ShadowFieldsNeverReachTheOutput : Prop :=
  ∀ s s' : State, s.Agrees s' →
    (∀ t, step s = .next t → ∃ t', step s' = .next t' ∧ t.Agrees t') ∧
    (∀ f, step s = .fault f → step s' = .fault f) ∧ (∀ r, step s = .refused r → step s' = .refused r)

/-- 10_state.md R44 (i), (ii), (iii), (v), 00_scope.md R9, and the canonical form of memory hold after reset, for every
configuration and either value of `backend_init_ok`. The spec marks R44 as its own inference. -/
def Obligations.InvariantHoldsAtReset : Prop :=
  ∀ (cfg : Config) (ok : Bool), (State.resetWith cfg ok).Inv

/-- 10_state.md R44, 00_scope.md R9, 10_state.md R41: every step keeps the invariant. The spec marks R44 as its
own inference. -/
def Obligations.EveryStepKeepsTheInvariant : Prop :=
  ∀ s t : State, s.Inv → step s = .next t → t.Inv

/-! ## Reset, failure, life cycle -/

/-- 10_state.md R43, 70_reset_and_hazards.md R311, R312: the reset values of every field of the block, and no command. -/
def Obligations.ResetValues : Prop :=
  ∀ (cfg : Config) (ok : Bool), let s := State.resetWith cfg ok
    (∀ x, (s.chan x).enabled = false ∧ (s.chan x).frequencyReg.val = 0 ∧ (s.chan x).volume.val = 0 ∧
      (s.chan x).pan.val = 128 ∧ (s.chan x).envelope.active = false ∧ (s.chan x).envelope.growing = false ∧
      (s.chan x).envelope.stepTime = 0 ∧ (s.chan x).envelope.currentLevel.val = 0 ∧
      (s.chan x).sweep.active = false ∧ (s.chan x).sweep.isModulation = false ∧
      (s.chan x).sweep.intervalTime = 0) ∧
    (∀ m, (s.waveIndex m).val = 0) ∧ (∀ k, s.dirty k = true) ∧ s.blk.nsel.active.val = 0 ∧
    s.blk.nsel.playing = false ∧ s.blk.failed = !ok ∧ s.out = []

/-- 60_exceptions.md R281, R285: after a failed initialisation the failure has been reported once, and while the state exists
no step changes the block or emits a command; only shutdown and a new initialisation, which samples `backend_init_ok`
anew, end it. That the command history and memory stand across a new initialisation is the model's choice (DESIGN CHOICE,
log 13), and so is that a report is an entry of a history (DESIGN CHOICE, log 14). -/
def Obligations.FailureLastsUntilReinitialisation : Prop :=
  (∀ cfg, (State.resetWith cfg false).blk.failed = true ∧ (State.resetWith cfg false).env.reports = [.backendInitFail]) ∧
  (∀ s t : State, s.env.alive = true → s.blk.failed = true → step s = .next t →
    t.blk = s.blk ∧ t.out = s.out ∧ t.env.reports = s.env.reports) ∧
  (∀ (s : State) (ok : Bool) (rest : List HostAction), s.env.alive = false → s.env.inbox = .init ok :: rest →
    ∃ t, step s = .next t ∧ t.blk = Block.reset ok ∧ t.out = s.out ∧ t.env.alive = true ∧
      (∀ b, t.memRead b = s.memRead b) ∧
      t.env.reports = s.env.reports ++ if ok then [] else [.backendInitFail])

/-- 10_state.md R44 (iv), which the spec marks as its own inference: no step but an initialisation changes `failed`. No step
changes the configuration either, which the machine holds as data by the model's choice (DESIGN CHOICE, log 1). -/
def Obligations.FailedAndConfigurationAreConstant : Prop :=
  ∀ s t : State, step s = .next t →
    t.env.cfg = s.env.cfg ∧
    ((∀ ok rest, s.env.inbox ≠ .init ok :: rest) → t.blk.failed = s.blk.failed)

/-- 70_reset_and_hazards.md R310, R323; 93_implementation_defined.md U13: shutdown emits nothing and ends the state; a
notification after it is refused, and so is an initialisation of a state that exists. The refusals are the model's form
(log 13). -/
def Obligations.LifeCycle : Prop :=
  ∀ (s : State) (rest : List HostAction),
    (s.env.alive = true → s.env.inbox = .shutdown :: rest →
      ∃ t, step s = .next t ∧ t.env.alive = false ∧ t.out = s.out ∧ t.env.inbox = rest) ∧
    (s.env.alive = false → ∀ a, s.env.inbox = .notify a :: rest → step s = .refused .afterShutdown) ∧
    (s.env.alive = true → ∀ ok, s.env.inbox = .init ok :: rest → step s = .refused .alreadyInitialised)

/-- 10_state.md R20, 60_exceptions.md R282, 70_reset_and_hazards.md R311: with no pending action the machine idles, unchanged;
a host action that is neither a notification nor an initialisation leaves the block, the commands and the feedback sample
as they were. The pending actions, and that the machine steps on an empty list, are the model's choice (DESIGN CHOICE,
log 3). -/
def Obligations.NothingHappensWithoutANotification : Prop :=
  ∀ s : State, (s.env.inbox = [] → step s = .next s) ∧
    ∀ (act : HostAction) (rest : List HostAction) (t : State), s.env.inbox = act :: rest →
      (∀ a, act ≠ .notify a) → (∀ a v, act ≠ .st a v) → (∀ ok, act ≠ .init ok) → step s = .next t →
      t.blk = s.blk ∧ t.out = s.out ∧ t.env.sample = s.env.sample ∧ t.env.draws = s.env.draws

/-- 70_reset_and_hazards.md R320 (2), R321; 10_state.md R35: after a successful initialisation the backend holds the thirteen
voices, all stopped, the melodic ones with 32-byte buffers and N(n) with pattern n of the configuration. That they are
listed in the order of their numbers 0 to 12, and that none is listed after a failed one, are the model's (DEDUCED,
log 18). -/
def Obligations.ThirteenVoicesAtBoot : Prop :=
  ∀ cfg : Config, bootVoices cfg false = [] ∧
    (bootVoices cfg true).map (fun v => v.voice.number.val) = List.range 13 ∧
    ∀ v ∈ bootVoices cfg true, v.playing = false ∧ (∀ m, v.voice = .V m → v.buffer.length = 32) ∧
      ∀ n, v.voice = .N n → v.buffer = cfg.noisePattern.get n

/-- 10_state.md R36, 30_encoding.md R111: SNDEN sets `snd_en`, FB sets what the backend will answer, each changes nothing
else, and no other step changes either. That the two are actions taken from a list, and the script a field, are the
model's choice (DESIGN CHOICE, logs 3, 4). -/
def Obligations.OnlyTheHostSetsTheGateAndTheScript : Prop :=
  ∀ s : State,
    (∀ on rest, s.env.inbox = .sndEn on :: rest →
      step s = .next { s with env := { s.env with inbox := rest, sndEn := on } }) ∧
    (∀ f rest, s.env.inbox = .fb f :: rest →
      step s = .next { s with env := { s.env with inbox := rest, backend := some f } }) ∧
    ∀ t, step s = .next t →
      ((∀ on rest, s.env.inbox ≠ .sndEn on :: rest) → t.env.sndEn = s.env.sndEn) ∧
      ((∀ f rest, s.env.inbox ≠ .fb f :: rest) → t.env.backend = s.env.backend)
end

