-- ==== Sys2Proof/Laws/Boot.lean ====
section
/-! SUPPORT. The boot contract's voices: the fields of a voice just created, and which voices are listed. -/

/- One theorem at a time: each one elaborated on its own thread takes that thread's stack. -/
set_option Elab.async false

namespace Sys2Proof.Machine

@[simp] theorem createVoice_voice (v : Voice) (buf : List Byte) : (createVoice v buf).voice = v := rfl

@[simp] theorem createVoice_buffer (v : Voice) (buf : List Byte) : (createVoice v buf).buffer = buf := rfl

@[simp] theorem createVoice_playing (v : Voice) (buf : List Byte) : (createVoice v buf).playing = false := rfl

/-- A voice listed at boot is a melodic voice just created from its open buffer or a noise voice just created from its
pattern (70_reset_and_hazards.md R321). -/
theorem mem_bootVoices {cfg : Config} {b : BootVoice} :
    b ∈ bootVoices cfg true ↔
      (∃ m, b = createVoice (.V m) (Config.openMelodicBuffer m).toList) ∨
        ∃ n, b = createVoice (.N n) (cfg.noisePattern.get n) := by
  simp only [bootVoices, if_true, List.mem_append, List.mem_map]
  refine or_congr ⟨fun ⟨m, _, h⟩ => ⟨m, h.symm⟩, fun ⟨m, h⟩ => ⟨m, by cases m <;> simp, h.symm⟩⟩
    ⟨fun ⟨n, _, h⟩ => ⟨n, h.symm⟩, fun ⟨n, h⟩ => ⟨n, by fin_cases n <;> simp, h.symm⟩⟩

end Sys2Proof.Machine
end

