-- ==== Sys2Proof/Laws/Decode.lean ====
section
/-! SUPPORT. What the required properties of an address map give the decoder: regions are disjoint, so the first test of
R93 is unambiguous and the tests do not overlap. -/

/- One theorem at a time: each one elaborated on its own thread takes that thread's stack. -/
set_option Elab.async false

namespace Sys2Proof

/-- Disjointness of two ranges is symmetric. -/
theorem rangesDisjoint_symm {p q : Nat × Nat} (h : rangesDisjoint p q = true) : rangesDisjoint q p = true := by
  simp only [rangesDisjoint, Bool.or_eq_true, decide_eq_true_eq, beq_iff_eq] at h ⊢; omega

/-- No address lies in two disjoint ranges. -/
theorem rangesDisjoint_elim {p q : Nat × Nat} (h : rangesDisjoint p q = true) {a : Nat} (h1 : p.1 ≤ a) (h2 : a < p.1 + p.2)
    (h3 : q.1 ≤ a) (h4 : a < q.1 + q.2) : False := by
  simp only [rangesDisjoint, Bool.or_eq_true, decide_eq_true_eq, beq_iff_eq] at h; omega

/-- Every slot is tried by test (1) of R93. -/
theorem mem_allSlots (k : Slot) : k ∈ allSlots := by fin_cases k <;> decide

/-- An address lies in at most one waveform region. -/
theorem wave_unique {m : AddrMap} (h : m.regionsDisjoint = true) {a : Nat} {j k : Slot}
    (hj : m.inWave j a = true) (hk : m.inWave k a = true) : j = k := by
  simp only [AddrMap.regionsDisjoint, decide_eq_true_eq, AddrMap.regions, List.pairwise_append, List.pairwise_map] at h
  simp only [AddrMap.inWave, Bool.and_eq_true, decide_eq_true_eq] at hj hk
  by_contra hne
  have : Std.Symm (fun j k : Slot => rangesDisjoint (m.aWave j, waveBytes) (m.aWave k, waveBytes) = true) :=
    ⟨fun _ _ => rangesDisjoint_symm⟩
  exact rangesDisjoint_elim (h.1.forall (mem_allSlots j) (mem_allSlots k) hne) hj.1 hj.2 hk.1 hk.2

/-- No waveform address lies in the modulation-data region. -/
theorem wave_not_mod {m : AddrMap} (h : m.regionsDisjoint = true) {a : Nat} {j : Slot}
    (hj : m.inWave j a = true) (hk : m.inMod a = true) : False := by
  simp only [AddrMap.regionsDisjoint, decide_eq_true_eq, AddrMap.regions, List.pairwise_append] at h
  simp only [AddrMap.inWave, AddrMap.inMod, Bool.and_eq_true, decide_eq_true_eq] at hj hk
  exact rangesDisjoint_elim (h.2.2 _ (List.mem_map_of_mem (mem_allSlots j)) _ (List.mem_singleton.mpr rfl)) hj.1 hj.2 hk.1 hk.2

/-- Test (1) of R93 finds the slot whose region holds the address. -/
theorem waveSlotAt_eq {m : AddrMap} (h : m.regionsDisjoint = true) {a : Nat} {k : Slot} (hk : m.inWave k a = true) :
    waveSlotAt m a = some k := by
  unfold waveSlotAt
  cases hf : allSlots.find? (fun k => m.inWave k a) with
  | none => exact absurd hk (by simpa using List.find?_eq_none.mp hf k (mem_allSlots k))
  | some j =>
    have := List.find?_some hf
    rw [wave_unique h this hk]

/-- The three required properties of an allowed configuration's map (30_encoding.md R92). -/
theorem wf_parts {cfg : Config} (h : cfg.wf = true) :
    cfg.map.regAddrs.Nodup ∧ cfg.map.regionsDisjoint = true ∧ (∀ a ∈ cfg.map.regAddrs, cfg.map.inRegion a = false) := by
  simp only [Config.wf, AddrMap.wf, AddrMap.registersDistinct, AddrMap.registersOutsideRegions, Bool.and_eq_true,
    decide_eq_true_eq, List.all_eq_true, Bool.not_eq_true'] at h
  exact ⟨h.1.1.1, h.1.1.2, h.1.2⟩

end Sys2Proof
end

