-- ==== Sys2Proof/Laws/Memory.lean ====
section
/-! SUPPORT. The laws of bus memory: the canonical form, that every operation keeps it, and read after write. -/

/- One theorem at a time: each one elaborated on its own thread takes that thread's stack. -/
set_option Elab.async false

namespace Sys2Proof.Machine

/-- Every address listed in `m` is above `a`. -/
def Memory.above (a : Nat) (m : Memory) : Prop := ∀ cell ∈ m, a < cell.1

theorem memory_wf_nil : Memory.wf [] = true := rfl

/-- The canonical form of a non-empty memory, cell by cell. -/
theorem memory_wf_cons (a : Nat) (w : Byte) (m : Memory) :
    Memory.wf ((a, w) :: m) = true ↔ w ≠ unlistedByte ∧ Memory.above a m ∧ Memory.wf m = true := by
  induction m generalizing a w with
  | nil => simp [Memory.wf, Memory.above]
  | cons c rest ih =>
    obtain ⟨b, v⟩ := c
    simp only [Memory.wf, Bool.and_eq_true, decide_eq_true_eq, bne_iff_ne, Memory.above, List.mem_cons, forall_eq_or_imp]
    constructor
    · rintro ⟨⟨hab, hw⟩, hwf⟩
      exact ⟨hw, ⟨hab, fun c hc => lt_trans hab (((ih b v).mp hwf).2.1 c hc)⟩, hwf⟩
    · rintro ⟨hw, ⟨hab, _⟩, hwf⟩
      exact ⟨⟨hab, hw⟩, hwf⟩

theorem memory_wf_consIf {a : Nat} {v : Byte} {m : Memory} (ha : Memory.above a m) (hm : Memory.wf m = true) :
    Memory.wf (Memory.cons a v m) = true := by
  unfold Memory.cons
  split
  · exact hm
  · next h => exact (memory_wf_cons a v m).mpr ⟨h, ha, hm⟩

/-- What a write lists: the old cells, and the written one. -/
theorem mem_write {m : Memory} {a : Nat} {v : Byte} {cell : Host.Cell} (h : cell ∈ m.write a v) :
    cell ∈ m ∨ cell.1 = a := by
  induction m with
  | nil =>
    simp only [Memory.write, Memory.cons] at h
    split at h <;> simp_all
  | cons c rest ih =>
    obtain ⟨b, w⟩ := c
    simp only [Memory.write, Memory.cons] at h
    split at h
    · split at h
      · exact .inl h
      · rcases List.mem_cons.mp h with rfl | h
        · exact .inr rfl
        · exact .inl h
    · split at h
      · split at h
        · exact .inl (List.mem_cons_of_mem _ h)
        · rcases List.mem_cons.mp h with rfl | h
          · exact .inr rfl
          · exact .inl (List.mem_cons_of_mem _ h)
      · rcases List.mem_cons.mp h with h | h
        · exact .inl (by simp [h])
        · exact (ih h).imp (List.mem_cons_of_mem _) id

/-- A write keeps the canonical form. -/
theorem write_wf {m : Memory} (a : Nat) (v : Byte) (h : m.wf = true) : (m.write a v).wf = true := by
  induction m with
  | nil => exact memory_wf_consIf (fun _ hc => by cases hc) h
  | cons c rest ih =>
    obtain ⟨b, w⟩ := c
    obtain ⟨hw, hb, hr⟩ := (memory_wf_cons b w rest).mp h
    simp only [Memory.write]
    split
    · next hab =>
      refine memory_wf_consIf (fun c hc => ?_) h
      rcases List.mem_cons.mp hc with rfl | hc
      · exact hab
      · exact lt_trans hab (hb c hc)
    · split
      · next hab => exact memory_wf_consIf (hab ▸ hb) hr
      · next h1 h2 =>
        refine (memory_wf_cons b w _).mpr ⟨hw, fun c hc => ?_, ih hr⟩
        rcases mem_write hc with hc | hc
        · exact hb c hc
        · rw [hc]; exact lt_of_le_of_ne (not_lt.mp h1) (Ne.symm h2)

/-- A store of consecutive bytes keeps the canonical form. -/
theorem writeBytes_wf {m : Memory} (a : Nat) (vs : List Byte) (h : m.wf = true) : (m.writeBytes a vs).wf = true := by
  induction vs generalizing m a with
  | nil => exact h
  | cons v vs ih => exact ih (a + 1) (write_wf a v h)

/-- An address below every listed one reads as unlisted. -/
theorem read_of_above {m : Memory} {a : Nat} (h : Memory.above a m) : m.read a = unlistedByte := by
  induction m with
  | nil => rfl
  | cons c rest ih =>
    obtain ⟨b, w⟩ := c
    have hb : a < b := h (b, w) (by simp)
    simp only [Memory.read, if_neg (Nat.ne_of_gt hb)]
    exact ih (fun c hc => h c (List.mem_cons_of_mem _ hc))

theorem read_cons_self {m : Memory} {a : Nat} {v : Byte} (h : Memory.above a m) : (Memory.cons a v m).read a = v := by
  unfold Memory.cons
  split
  · next hv => rw [read_of_above h, hv]
  · simp [Memory.read]

theorem read_cons_ne {m : Memory} {a b : Nat} {v : Byte} (h : a ≠ b) : (Memory.cons a v m).read b = m.read b := by
  unfold Memory.cons
  split
  · rfl
  · simp [Memory.read, h]

/-- A read of the written address gives the value written. -/
theorem read_write_self {m : Memory} (a : Nat) (v : Byte) (h : m.wf = true) : (m.write a v).read a = v := by
  induction m with
  | nil => exact read_cons_self (fun _ hc => by cases hc)
  | cons c rest ih =>
    obtain ⟨b, w⟩ := c
    obtain ⟨_, hb, hr⟩ := (memory_wf_cons b w rest).mp h
    simp only [Memory.write]
    split
    · next hab =>
      refine read_cons_self fun c hc => ?_
      rcases List.mem_cons.mp hc with rfl | hc
      · exact hab
      · exact lt_trans hab (hb c hc)
    · split
      · next hab => exact read_cons_self (hab ▸ hb)
      · next h2 => simpa [Memory.read, Ne.symm h2] using ih hr

/-- A write leaves every other address alone. -/
theorem read_write_ne {m : Memory} {a b : Nat} (v : Byte) (h : a ≠ b) : (m.write a v).read b = m.read b := by
  induction m with
  | nil => exact read_cons_ne h
  | cons c rest ih =>
    obtain ⟨d, w⟩ := c
    simp only [Memory.write]
    split
    · exact read_cons_ne h
    · split
      · next hab => subst hab; rw [read_cons_ne h]; simp [Memory.read, h]
      · simp only [Memory.read, ih]

/-- What a store of consecutive bytes lists. -/
theorem mem_writeBytes {m : Memory} {a : Nat} {vs : List Byte} {cell : Host.Cell} (h : cell ∈ m.writeBytes a vs) :
    cell ∈ m ∨ (a ≤ cell.1 ∧ cell.1 < a + vs.length) := by
  induction vs generalizing m a with
  | nil => exact .inl h
  | cons v vs ih =>
    rcases ih h with h | h
    · rcases mem_write h with h | h
      · exact .inl h
      · exact .inr ⟨h ▸ le_refl _, by rw [h, List.length_cons]; omega⟩
    · obtain ⟨h1, h2⟩ := h
      refine .inr ⟨Nat.le_of_succ_le h1, ?_⟩
      rw [List.length_cons]
      omega

/-- A store of consecutive bytes leaves every other address alone. -/
theorem read_writeBytes_out {m : Memory} {a b : Nat} {vs : List Byte} (h : ¬ (a ≤ b ∧ b < a + vs.length)) :
    (m.writeBytes a vs).read b = m.read b := by
  induction vs generalizing m a with
  | nil => rfl
  | cons v vs ih =>
    rw [List.length_cons] at h
    show ((m.write a v).writeBytes (a+1) vs).read b = _
    rw [ih (by omega), read_write_ne v (by omega)]

/-- A stored byte reads back. -/
theorem read_writeBytes_in {m : Memory} (hm : m.wf = true) {a : Nat} {vs : List Byte} (n : Nat) (h : n < vs.length) :
    (m.writeBytes a vs).read (a + n) = vs[n] := by
  induction vs generalizing m a n with
  | nil => simp at h
  | cons v vs ih =>
    show ((m.write a v).writeBytes (a+1) vs).read (a + n) = _
    cases n with
    | zero => rw [read_writeBytes_out (by omega)]; exact read_write_self a v hm
    | succ n =>
      have := ih (write_wf a v hm) (a := a+1) n (by simpa using h)
      rw [show a + (n+1) = a + 1 + n by omega, this]; rfl

theorem reset_memory_wf : State.reset.env.bus.wf = true := rfl

end Sys2Proof.Machine
end

