-- ==== Sys2Proof/Laws/Operands.lean ====
section
/-! SUPPORT. Each register field and each derivation said once in plain numbers: the fields by division and remainder
(30_encoding.md R100 to R110), the derivations by the rules' own arithmetic (Safety.lean). -/

/- One theorem at a time: each one elaborated on its own thread takes that thread's stack. -/
set_option Elab.async false

namespace Sys2Proof.Machine

theorem intEn_eq (b : Byte) : intEn b = decide (b.toNat / 128 = 1) := by revert b; decide +kernel
theorem intIe_eq (b : Byte) : intIe b = decide (b.toNat / 32 % 2 = 1) := by revert b; decide +kernel
theorem intIv_eq (b : Byte) : (intIv b).toNat = b.toNat % 32 := by revert b; decide +kernel
theorem lrvLeft_eq (b : Byte) : (lrvLeft b).toNat = b.toNat / 16 := by revert b; decide +kernel
theorem lrvRight_eq (b : Byte) : (lrvRight b).toNat = b.toNat % 16 := by revert b; decide +kernel
theorem fqhHi_eq (b : Byte) : (fqhHi b).toNat = b.toNat % 8 := by revert b; decide +kernel
theorem ev0Level_eq (b : Byte) : (ev0Level b).toNat = b.toNat / 16 := by revert b; decide +kernel
theorem ev0En_eq (b : Byte) : ev0En b = decide (b.toNat % 2 = 1) := by revert b; decide +kernel
theorem ev1Grow_eq (b : Byte) : ev1Grow b = decide (b.toNat / 8 % 2 = 1) := by revert b; decide +kernel
theorem ev1Rate_eq (b : Byte) : (ev1Rate b).toNat = b.toNat % 8 := by revert b; decide +kernel
theorem ev1SwpEn_eq (b : Byte) : ev1SwpEn b = decide (b.toNat / 64 % 2 = 1) := by revert b; decide +kernel
theorem ev1Mod_eq (b : Byte) : ev1Mod b = decide (b.toNat / 16 % 2 = 1) := by revert b; decide +kernel
theorem ev1Nsel_eq (b : Byte) : (ev1Nsel b).val = b.toNat / 16 % 8 := by revert b; decide +kernel
theorem ramWidx_eq (b : Byte) : (ramWidx b).toNat = b.toNat % 16 := by revert b; decide +kernel
theorem swpShift_eq (b : Byte) : swpShift b = decide (b.toNat / 128 % 2 = 1) := by revert b; decide +kernel
theorem swpBase_eq (b : Byte) : (swpBase b).toNat = b.toNat / 16 % 8 := by revert b; decide +kernel
theorem swpDir_eq (b : Byte) : swpDir b = decide (b.toNat / 8 % 2 = 1) := by revert b; decide +kernel
theorem swpCount_eq (b : Byte) : (swpCount b).toNat = b.toNat % 8 := by revert b; decide +kernel

theorem freqCode_eq (h l : Byte) : (freqCode h l).val = h.toNat % 8 * 256 + l.toNat := by
  rw [← fqhHi_eq]
  unfold freqCode
  show (fqhHi h ++ l).toNat = _
  rw [BitVec.toNat_append, Nat.shiftLeft_eq]
  have := Nat.two_pow_add_eq_or_of_lt l.isLt (fqhHi h).toNat
  rw [Nat.mul_comm] at this; exact this.symm

theorem volumeNat_eq (o l : BitVec 4) : volumeNat o l = if o.toNat = 0 then 0 else 2 ^ Nat.log2 o.toNat * l.toNat := by
  revert o l; decide +kernel

theorem nominalVolume_eq (b e : Byte) :
    (nominalVolume (lrvLeft b ||| lrvRight b) (ev0Level e)).val = ruleVolume b.toNat e.toNat := by
  show volumeNat _ _ = _
  rw [volumeNat_eq, BitVec.toNat_or, lrvLeft_eq, lrvRight_eq, ev0Level_eq]; rfl

theorem derivedPan_num (l r : BitVec 4) : ((derivedPan l r).val : Int) =
    128 + ((l.toNat : Nat) - (r.toNat : Nat) : Int) * (if l.toNat ||| r.toNat = 0 then 128 else 2 ^ (6 - Nat.log2 (l.toNat ||| r.toNat))) := by
  revert l r; decide +kernel

theorem derivedPan_range (l r : BitVec 4) : 8 ≤ (derivedPan l r).val ∧ (derivedPan l r).val ≤ 248 ∧ ((derivedPan l r).val = 128 ↔ l.toNat = r.toNat) := by
  revert l r; decide +kernel

theorem derivedPan_eq (b : Byte) : ((derivedPan (lrvLeft b) (lrvRight b)).val : Int) = rulePan b.toNat := by
  rw [derivedPan_num, lrvLeft_eq, lrvRight_eq]; rfl

theorem intervalDuration_eq (b : Byte) : intervalDuration b = 96 / 25 * ((b.toNat % 32 : Nat) + 1 : Rat) := by
  unfold intervalDuration kInterval; rw [intIv_eq]; push_cast; rfl
theorem envelopeStep_eq (b : Byte) : envelopeStep b = 384 / 25 * ((b.toNat % 8 : Nat) + 1 : Rat) := by
  unfold envelopeStep kEnv; rw [ev1Rate_eq]; push_cast; rfl
theorem rampDuration_eq (f : Bool) (b : Byte) (v : Fin 256) : rampDuration f b v = ruleRamp f b.toNat v.val := by
  unfold rampDuration ruleRamp; rw [envelopeStep_eq, ev1Grow_eq]
  simp only [div16, rampDistance, decide_eq_true_eq]
theorem sweepDuration_eq (b : Byte) (f : Fin 2048) : sweepDuration b f = ruleSweep b.toNat f.val := by
  unfold sweepDuration ruleSweep sweepInterval sweepDistance kSwpSlow kSwpFast
  rw [swpShift_eq, swpBase_eq, swpDir_eq, swpCount_eq]
  simp only [decide_eq_true_eq]; push_cast; rfl
theorem sweepTarget_eq (b : Byte) : sweepTarget (swpDir b) = if b.toNat / 8 % 2 = 1 then 500000 else 78125 / 32 := by
  rw [swpDir_eq]; unfold sweepTarget; simp only [decide_eq_true_eq]; split <;> (simp [rateMelodic, clkMelodic, freqClamp]; norm_num)
theorem rate_eq_ruleRate (x : Chan) (c : Fin 2048) : rate x c = ruleRate x c.val := by
  cases x <;> rfl
theorem rampTarget_eq (b : Byte) : rampTarget (ev1Grow b) = if b.toNat / 8 % 2 = 1 then 255 else 0 := by
  rw [ev1Grow_eq]; simp [rampTarget]

end Sys2Proof.Machine
end

