-- ==== Sys2Proof/Laws/State.lean ====
section
/-! SUPPORT. One lemma per field per update of the state, each true by `rfl`, and the two lemmas that say what a table
update does, so that no proof unfolds a record update. -/

/- One theorem at a time: each one elaborated on its own thread takes that thread's stack. -/
set_option Elab.async false

namespace Sys2Proof.Machine

theorem Mel.ix_injective : Function.Injective Mel.ix := by intro a b; cases a <;> cases b <;> decide

theorem Chan.ix_injective : Function.Injective Chan.ix := by
  intro a b; rcases a with (_ | _ | _ | _ | _) | _ <;> rcases b with (_ | _ | _ | _ | _) | _ <;> decide

theorem Vector_get_set {α : Type} {n : Nat} (v : Vector α n) (i j : Fin n) (a : α) :
    (v.set i a).get j = if j = i then a else v.get j := by
  rcases i with ⟨i, hi⟩
  rcases j with ⟨j, hj⟩
  simp only [Vector.get_eq_getElem, Vector.getElem_set, Fin.mk.injEq]
  by_cases h : i = j
  · simp [h]
  · simp [h, Ne.symm h]

theorem Vector_set_set {α : Type} {n : Nat} (v : Vector α n) (i : Fin n) (a b : α) :
    (v.set i a).set i b = v.set i b := by
  simp

theorem Vector_set_get {α : Type} {n : Nat} (v : Vector α n) (i : Fin n) : v.set i (v.get i) = v := by
  ext j hj
  by_cases h : i.val = j
  · simp [h, Vector.get_eq_getElem]
  · simp [h]

/-- Writing channel x changes channel x alone. -/
theorem chan_setChan (s : State) (x y : Chan) (c : Channel) :
    (s.setChan x c).chan y = if y = x then c else s.chan y := by
  have h : (y.ix = x.ix) ↔ y = x := ⟨fun h => Chan.ix_injective h, fun h => by rw [h]⟩
  simp only [State.chan, State.setChan, Vector_get_set, h]

@[simp] theorem chan_setChan_self (s : State) (x : Chan) (c : Channel) : (s.setChan x c).chan x = c := by
  rw [chan_setChan, if_pos rfl]

theorem chan_setChan_ne (s : State) {x y : Chan} (c : Channel) (h : y ≠ x) : (s.setChan x c).chan y = s.chan y := by
  rw [chan_setChan, if_neg h]

@[simp] theorem setChan_setChan (s : State) (x : Chan) (c d : Channel) :
    (s.setChan x c).setChan x d = s.setChan x d := by
  simp only [State.setChan, Vector_set_set]

@[simp] theorem setChan_chan (s : State) (x : Chan) : s.setChan x (s.chan x) = s := by
  simp only [State.setChan, State.chan, Vector_set_get]

/-- Writing channel x's waveform index changes it alone. -/
theorem waveIndex_setWaveIndex (s : State) (x y : Mel) (k : Slot) :
    (s.setWaveIndex x k).waveIndex y = if y = x then k else s.waveIndex y := by
  have h : (y.ix = x.ix) ↔ y = x := ⟨fun h => Mel.ix_injective h, fun h => by rw [h]⟩
  simp only [State.waveIndex, State.setWaveIndex, Vector_get_set, h]

/-- Writing slot k's dirty flag changes it alone. -/
theorem dirty_setDirty (s : State) (k j : Slot) (b : Bool) :
    (s.setDirty k b).dirty j = if j = k then b else s.dirty j := by
  simp only [State.dirty, State.setDirty, Vector_get_set]

/-- Masked marking sets the selected flags and keeps the others. -/
theorem dirty_markMasked (s : State) (mask : BitVec 5) (j : Slot) :
    (s.markMasked mask).dirty j = (s.dirty j || mask.getLsbD j.val) := by
  simp [State.dirty, State.markMasked, Vector.get_eq_getElem]

theorem emit_eq_emits (s : State) (c : Cmd) : s.emit c = s.emits [c] := rfl

@[simp] theorem emits_emits (s : State) (cs ds : List Cmd) : (s.emits cs).emits ds = s.emits (cs ++ ds) := by
  simp [State.emits]

@[simp] theorem emits_nil (s : State) : s.emits [] = s := by
  simp [State.emits]

/-! What `setChan` leaves. -/

@[simp] theorem setChan_blk_waveIndex (s : State) (x : Chan) (c : Channel) : (s.setChan x c).blk.waveIndex = s.blk.waveIndex := rfl
@[simp] theorem setChan_blk_dirty (s : State) (x : Chan) (c : Channel) : (s.setChan x c).blk.dirty = s.blk.dirty := rfl
@[simp] theorem setChan_blk_nsel (s : State) (x : Chan) (c : Channel) : (s.setChan x c).blk.nsel = s.blk.nsel := rfl
@[simp] theorem setChan_blk_failed (s : State) (x : Chan) (c : Channel) : (s.setChan x c).blk.failed = s.blk.failed := rfl
@[simp] theorem setChan_out (s : State) (x : Chan) (c : Channel) : (s.setChan x c).out = s.out := rfl
@[simp] theorem setChan_env (s : State) (x : Chan) (c : Channel) : (s.setChan x c).env = s.env := rfl
@[simp] theorem setChan_waveIndex (s : State) (x : Chan) (c : Channel) (y : Mel) : (s.setChan x c).waveIndex y = s.waveIndex y := rfl
@[simp] theorem setChan_dirty (s : State) (x : Chan) (c : Channel) (j : Slot) : (s.setChan x c).dirty j = s.dirty j := rfl
@[simp] theorem setChan_voice (s : State) (x : Chan) (c : Channel) (y : Chan) : (s.setChan x c).voice y = s.voice y := rfl
@[simp] theorem setChan_memRead (s : State) (x : Chan) (c : Channel) (a : Nat) : (s.setChan x c).memRead a = s.memRead a := rfl
@[simp] theorem setChan_map (s : State) (x : Chan) (c : Channel) : (s.setChan x c).map = s.map := rfl
@[simp] theorem setChan_convert (s : State) (x : Chan) (c : Channel) (j : Slot) : convert j (s.setChan x c) = convert j s := rfl
@[simp] theorem setChan_gateOpen (s : State) (x : Chan) (c : Channel) : (s.setChan x c).gateOpen = s.gateOpen := rfl
@[simp] theorem setChan_intByte (s : State) (x : Chan) (c : Channel) (y : Chan) : (s.setChan x c).intByte y = s.intByte y := rfl
@[simp] theorem setChan_lrvByte (s : State) (x : Chan) (c : Channel) (y : Chan) : (s.setChan x c).lrvByte y = s.lrvByte y := rfl
@[simp] theorem setChan_fqlByte (s : State) (x : Chan) (c : Channel) (y : Chan) : (s.setChan x c).fqlByte y = s.fqlByte y := rfl
@[simp] theorem setChan_fqhByte (s : State) (x : Chan) (c : Channel) (y : Chan) : (s.setChan x c).fqhByte y = s.fqhByte y := rfl
@[simp] theorem setChan_ev0Byte (s : State) (x : Chan) (c : Channel) (y : Chan) : (s.setChan x c).ev0Byte y = s.ev0Byte y := rfl
@[simp] theorem setChan_ev1Byte (s : State) (x : Chan) (c : Channel) (y : Chan) : (s.setChan x c).ev1Byte y = s.ev1Byte y := rfl
@[simp] theorem setChan_ramByte (s : State) (x : Chan) (c : Channel) (y : Mel) : (s.setChan x c).ramByte y = s.ramByte y := rfl
@[simp] theorem setChan_swpByte (s : State) (x : Chan) (c : Channel) : (s.setChan x c).swpByte = s.swpByte := rfl

/-! What `setEnabled` leaves. -/

@[simp] theorem setEnabled_blk_waveIndex (s : State) (x : Chan) (b : Bool) : (s.setEnabled x b).blk.waveIndex = s.blk.waveIndex := rfl
@[simp] theorem setEnabled_blk_dirty (s : State) (x : Chan) (b : Bool) : (s.setEnabled x b).blk.dirty = s.blk.dirty := rfl
@[simp] theorem setEnabled_blk_nsel (s : State) (x : Chan) (b : Bool) : (s.setEnabled x b).blk.nsel = s.blk.nsel := rfl
@[simp] theorem setEnabled_blk_failed (s : State) (x : Chan) (b : Bool) : (s.setEnabled x b).blk.failed = s.blk.failed := rfl
@[simp] theorem setEnabled_out (s : State) (x : Chan) (b : Bool) : (s.setEnabled x b).out = s.out := rfl
@[simp] theorem setEnabled_env (s : State) (x : Chan) (b : Bool) : (s.setEnabled x b).env = s.env := rfl
@[simp] theorem setEnabled_waveIndex (s : State) (x : Chan) (b : Bool) (y : Mel) : (s.setEnabled x b).waveIndex y = s.waveIndex y := rfl
@[simp] theorem setEnabled_dirty (s : State) (x : Chan) (b : Bool) (j : Slot) : (s.setEnabled x b).dirty j = s.dirty j := rfl
@[simp] theorem setEnabled_voice (s : State) (x : Chan) (b : Bool) (y : Chan) : (s.setEnabled x b).voice y = s.voice y := rfl
@[simp] theorem setEnabled_memRead (s : State) (x : Chan) (b : Bool) (a : Nat) : (s.setEnabled x b).memRead a = s.memRead a := rfl
@[simp] theorem setEnabled_map (s : State) (x : Chan) (b : Bool) : (s.setEnabled x b).map = s.map := rfl
@[simp] theorem setEnabled_convert (s : State) (x : Chan) (b : Bool) (j : Slot) : convert j (s.setEnabled x b) = convert j s := rfl
@[simp] theorem setEnabled_gateOpen (s : State) (x : Chan) (b : Bool) : (s.setEnabled x b).gateOpen = s.gateOpen := rfl
@[simp] theorem setEnabled_intByte (s : State) (x : Chan) (b : Bool) (y : Chan) : (s.setEnabled x b).intByte y = s.intByte y := rfl
@[simp] theorem setEnabled_lrvByte (s : State) (x : Chan) (b : Bool) (y : Chan) : (s.setEnabled x b).lrvByte y = s.lrvByte y := rfl
@[simp] theorem setEnabled_fqlByte (s : State) (x : Chan) (b : Bool) (y : Chan) : (s.setEnabled x b).fqlByte y = s.fqlByte y := rfl
@[simp] theorem setEnabled_fqhByte (s : State) (x : Chan) (b : Bool) (y : Chan) : (s.setEnabled x b).fqhByte y = s.fqhByte y := rfl
@[simp] theorem setEnabled_ev0Byte (s : State) (x : Chan) (b : Bool) (y : Chan) : (s.setEnabled x b).ev0Byte y = s.ev0Byte y := rfl
@[simp] theorem setEnabled_ev1Byte (s : State) (x : Chan) (b : Bool) (y : Chan) : (s.setEnabled x b).ev1Byte y = s.ev1Byte y := rfl
@[simp] theorem setEnabled_ramByte (s : State) (x : Chan) (b : Bool) (y : Mel) : (s.setEnabled x b).ramByte y = s.ramByte y := rfl
@[simp] theorem setEnabled_swpByte (s : State) (x : Chan) (b : Bool) : (s.setEnabled x b).swpByte = s.swpByte := rfl

/-! What `setEnvelopeActive` leaves. -/

@[simp] theorem setEnvelopeActive_blk_waveIndex (s : State) (x : Chan) (b : Bool) : (s.setEnvelopeActive x b).blk.waveIndex = s.blk.waveIndex := rfl
@[simp] theorem setEnvelopeActive_blk_dirty (s : State) (x : Chan) (b : Bool) : (s.setEnvelopeActive x b).blk.dirty = s.blk.dirty := rfl
@[simp] theorem setEnvelopeActive_blk_nsel (s : State) (x : Chan) (b : Bool) : (s.setEnvelopeActive x b).blk.nsel = s.blk.nsel := rfl
@[simp] theorem setEnvelopeActive_blk_failed (s : State) (x : Chan) (b : Bool) : (s.setEnvelopeActive x b).blk.failed = s.blk.failed := rfl
@[simp] theorem setEnvelopeActive_out (s : State) (x : Chan) (b : Bool) : (s.setEnvelopeActive x b).out = s.out := rfl
@[simp] theorem setEnvelopeActive_env (s : State) (x : Chan) (b : Bool) : (s.setEnvelopeActive x b).env = s.env := rfl
@[simp] theorem setEnvelopeActive_waveIndex (s : State) (x : Chan) (b : Bool) (y : Mel) : (s.setEnvelopeActive x b).waveIndex y = s.waveIndex y := rfl
@[simp] theorem setEnvelopeActive_dirty (s : State) (x : Chan) (b : Bool) (j : Slot) : (s.setEnvelopeActive x b).dirty j = s.dirty j := rfl
@[simp] theorem setEnvelopeActive_voice (s : State) (x : Chan) (b : Bool) (y : Chan) : (s.setEnvelopeActive x b).voice y = s.voice y := rfl
@[simp] theorem setEnvelopeActive_memRead (s : State) (x : Chan) (b : Bool) (a : Nat) : (s.setEnvelopeActive x b).memRead a = s.memRead a := rfl
@[simp] theorem setEnvelopeActive_map (s : State) (x : Chan) (b : Bool) : (s.setEnvelopeActive x b).map = s.map := rfl
@[simp] theorem setEnvelopeActive_convert (s : State) (x : Chan) (b : Bool) (j : Slot) : convert j (s.setEnvelopeActive x b) = convert j s := rfl
@[simp] theorem setEnvelopeActive_gateOpen (s : State) (x : Chan) (b : Bool) : (s.setEnvelopeActive x b).gateOpen = s.gateOpen := rfl
@[simp] theorem setEnvelopeActive_intByte (s : State) (x : Chan) (b : Bool) (y : Chan) : (s.setEnvelopeActive x b).intByte y = s.intByte y := rfl
@[simp] theorem setEnvelopeActive_lrvByte (s : State) (x : Chan) (b : Bool) (y : Chan) : (s.setEnvelopeActive x b).lrvByte y = s.lrvByte y := rfl
@[simp] theorem setEnvelopeActive_fqlByte (s : State) (x : Chan) (b : Bool) (y : Chan) : (s.setEnvelopeActive x b).fqlByte y = s.fqlByte y := rfl
@[simp] theorem setEnvelopeActive_fqhByte (s : State) (x : Chan) (b : Bool) (y : Chan) : (s.setEnvelopeActive x b).fqhByte y = s.fqhByte y := rfl
@[simp] theorem setEnvelopeActive_ev0Byte (s : State) (x : Chan) (b : Bool) (y : Chan) : (s.setEnvelopeActive x b).ev0Byte y = s.ev0Byte y := rfl
@[simp] theorem setEnvelopeActive_ev1Byte (s : State) (x : Chan) (b : Bool) (y : Chan) : (s.setEnvelopeActive x b).ev1Byte y = s.ev1Byte y := rfl
@[simp] theorem setEnvelopeActive_ramByte (s : State) (x : Chan) (b : Bool) (y : Mel) : (s.setEnvelopeActive x b).ramByte y = s.ramByte y := rfl
@[simp] theorem setEnvelopeActive_swpByte (s : State) (x : Chan) (b : Bool) : (s.setEnvelopeActive x b).swpByte = s.swpByte := rfl

/-! What `setSweepGate` leaves. -/

@[simp] theorem setSweepGate_blk_waveIndex (s : State) (b : Byte) : (s.setSweepGate b).blk.waveIndex = s.blk.waveIndex := rfl
@[simp] theorem setSweepGate_blk_dirty (s : State) (b : Byte) : (s.setSweepGate b).blk.dirty = s.blk.dirty := rfl
@[simp] theorem setSweepGate_blk_nsel (s : State) (b : Byte) : (s.setSweepGate b).blk.nsel = s.blk.nsel := rfl
@[simp] theorem setSweepGate_blk_failed (s : State) (b : Byte) : (s.setSweepGate b).blk.failed = s.blk.failed := rfl
@[simp] theorem setSweepGate_out (s : State) (b : Byte) : (s.setSweepGate b).out = s.out := rfl
@[simp] theorem setSweepGate_env (s : State) (b : Byte) : (s.setSweepGate b).env = s.env := rfl
@[simp] theorem setSweepGate_waveIndex (s : State) (b : Byte) (y : Mel) : (s.setSweepGate b).waveIndex y = s.waveIndex y := rfl
@[simp] theorem setSweepGate_dirty (s : State) (b : Byte) (j : Slot) : (s.setSweepGate b).dirty j = s.dirty j := rfl
@[simp] theorem setSweepGate_voice (s : State) (b : Byte) (y : Chan) : (s.setSweepGate b).voice y = s.voice y := rfl
@[simp] theorem setSweepGate_memRead (s : State) (b : Byte) (a : Nat) : (s.setSweepGate b).memRead a = s.memRead a := rfl
@[simp] theorem setSweepGate_map (s : State) (b : Byte) : (s.setSweepGate b).map = s.map := rfl
@[simp] theorem setSweepGate_convert (s : State) (b : Byte) (j : Slot) : convert j (s.setSweepGate b) = convert j s := rfl
@[simp] theorem setSweepGate_gateOpen (s : State) (b : Byte) : (s.setSweepGate b).gateOpen = s.gateOpen := rfl
@[simp] theorem setSweepGate_intByte (s : State) (b : Byte) (y : Chan) : (s.setSweepGate b).intByte y = s.intByte y := rfl
@[simp] theorem setSweepGate_lrvByte (s : State) (b : Byte) (y : Chan) : (s.setSweepGate b).lrvByte y = s.lrvByte y := rfl
@[simp] theorem setSweepGate_fqlByte (s : State) (b : Byte) (y : Chan) : (s.setSweepGate b).fqlByte y = s.fqlByte y := rfl
@[simp] theorem setSweepGate_fqhByte (s : State) (b : Byte) (y : Chan) : (s.setSweepGate b).fqhByte y = s.fqhByte y := rfl
@[simp] theorem setSweepGate_ev0Byte (s : State) (b : Byte) (y : Chan) : (s.setSweepGate b).ev0Byte y = s.ev0Byte y := rfl
@[simp] theorem setSweepGate_ev1Byte (s : State) (b : Byte) (y : Chan) : (s.setSweepGate b).ev1Byte y = s.ev1Byte y := rfl
@[simp] theorem setSweepGate_ramByte (s : State) (b : Byte) (y : Mel) : (s.setSweepGate b).ramByte y = s.ramByte y := rfl
@[simp] theorem setSweepGate_swpByte (s : State) (b : Byte) : (s.setSweepGate b).swpByte = s.swpByte := rfl

/-! What `setWaveIndex` leaves. -/

@[simp] theorem setWaveIndex_blk_ch (s : State) (x : Mel) (k : Slot) : (s.setWaveIndex x k).blk.ch = s.blk.ch := rfl
@[simp] theorem setWaveIndex_blk_dirty (s : State) (x : Mel) (k : Slot) : (s.setWaveIndex x k).blk.dirty = s.blk.dirty := rfl
@[simp] theorem setWaveIndex_blk_nsel (s : State) (x : Mel) (k : Slot) : (s.setWaveIndex x k).blk.nsel = s.blk.nsel := rfl
@[simp] theorem setWaveIndex_blk_failed (s : State) (x : Mel) (k : Slot) : (s.setWaveIndex x k).blk.failed = s.blk.failed := rfl
@[simp] theorem setWaveIndex_out (s : State) (x : Mel) (k : Slot) : (s.setWaveIndex x k).out = s.out := rfl
@[simp] theorem setWaveIndex_env (s : State) (x : Mel) (k : Slot) : (s.setWaveIndex x k).env = s.env := rfl
@[simp] theorem setWaveIndex_chan (s : State) (x : Mel) (k : Slot) (y : Chan) : (s.setWaveIndex x k).chan y = s.chan y := rfl
@[simp] theorem setWaveIndex_dirty (s : State) (x : Mel) (k : Slot) (j : Slot) : (s.setWaveIndex x k).dirty j = s.dirty j := rfl
@[simp] theorem setWaveIndex_voice (s : State) (x : Mel) (k : Slot) (y : Chan) : (s.setWaveIndex x k).voice y = s.voice y := rfl
@[simp] theorem setWaveIndex_memRead (s : State) (x : Mel) (k : Slot) (a : Nat) : (s.setWaveIndex x k).memRead a = s.memRead a := rfl
@[simp] theorem setWaveIndex_map (s : State) (x : Mel) (k : Slot) : (s.setWaveIndex x k).map = s.map := rfl
@[simp] theorem setWaveIndex_convert (s : State) (x : Mel) (k : Slot) (j : Slot) : convert j (s.setWaveIndex x k) = convert j s := rfl
@[simp] theorem setWaveIndex_gateOpen (s : State) (x : Mel) (k : Slot) : (s.setWaveIndex x k).gateOpen = s.gateOpen := rfl
@[simp] theorem setWaveIndex_intByte (s : State) (x : Mel) (k : Slot) (y : Chan) : (s.setWaveIndex x k).intByte y = s.intByte y := rfl
@[simp] theorem setWaveIndex_lrvByte (s : State) (x : Mel) (k : Slot) (y : Chan) : (s.setWaveIndex x k).lrvByte y = s.lrvByte y := rfl
@[simp] theorem setWaveIndex_fqlByte (s : State) (x : Mel) (k : Slot) (y : Chan) : (s.setWaveIndex x k).fqlByte y = s.fqlByte y := rfl
@[simp] theorem setWaveIndex_fqhByte (s : State) (x : Mel) (k : Slot) (y : Chan) : (s.setWaveIndex x k).fqhByte y = s.fqhByte y := rfl
@[simp] theorem setWaveIndex_ev0Byte (s : State) (x : Mel) (k : Slot) (y : Chan) : (s.setWaveIndex x k).ev0Byte y = s.ev0Byte y := rfl
@[simp] theorem setWaveIndex_ev1Byte (s : State) (x : Mel) (k : Slot) (y : Chan) : (s.setWaveIndex x k).ev1Byte y = s.ev1Byte y := rfl
@[simp] theorem setWaveIndex_ramByte (s : State) (x : Mel) (k : Slot) (y : Mel) : (s.setWaveIndex x k).ramByte y = s.ramByte y := rfl
@[simp] theorem setWaveIndex_swpByte (s : State) (x : Mel) (k : Slot) : (s.setWaveIndex x k).swpByte = s.swpByte := rfl

/-! What `setDirty` leaves. -/

@[simp] theorem setDirty_blk_ch (s : State) (k : Slot) (b : Bool) : (s.setDirty k b).blk.ch = s.blk.ch := rfl
@[simp] theorem setDirty_blk_waveIndex (s : State) (k : Slot) (b : Bool) : (s.setDirty k b).blk.waveIndex = s.blk.waveIndex := rfl
@[simp] theorem setDirty_blk_nsel (s : State) (k : Slot) (b : Bool) : (s.setDirty k b).blk.nsel = s.blk.nsel := rfl
@[simp] theorem setDirty_blk_failed (s : State) (k : Slot) (b : Bool) : (s.setDirty k b).blk.failed = s.blk.failed := rfl
@[simp] theorem setDirty_out (s : State) (k : Slot) (b : Bool) : (s.setDirty k b).out = s.out := rfl
@[simp] theorem setDirty_env (s : State) (k : Slot) (b : Bool) : (s.setDirty k b).env = s.env := rfl
@[simp] theorem setDirty_chan (s : State) (k : Slot) (b : Bool) (y : Chan) : (s.setDirty k b).chan y = s.chan y := rfl
@[simp] theorem setDirty_waveIndex (s : State) (k : Slot) (b : Bool) (y : Mel) : (s.setDirty k b).waveIndex y = s.waveIndex y := rfl
@[simp] theorem setDirty_voice (s : State) (k : Slot) (b : Bool) (y : Chan) : (s.setDirty k b).voice y = s.voice y := rfl
@[simp] theorem setDirty_memRead (s : State) (k : Slot) (b : Bool) (a : Nat) : (s.setDirty k b).memRead a = s.memRead a := rfl
@[simp] theorem setDirty_map (s : State) (k : Slot) (b : Bool) : (s.setDirty k b).map = s.map := rfl
@[simp] theorem setDirty_convert (s : State) (k : Slot) (b : Bool) (j : Slot) : convert j (s.setDirty k b) = convert j s := rfl
@[simp] theorem setDirty_gateOpen (s : State) (k : Slot) (b : Bool) : (s.setDirty k b).gateOpen = s.gateOpen := rfl
@[simp] theorem setDirty_intByte (s : State) (k : Slot) (b : Bool) (y : Chan) : (s.setDirty k b).intByte y = s.intByte y := rfl
@[simp] theorem setDirty_lrvByte (s : State) (k : Slot) (b : Bool) (y : Chan) : (s.setDirty k b).lrvByte y = s.lrvByte y := rfl
@[simp] theorem setDirty_fqlByte (s : State) (k : Slot) (b : Bool) (y : Chan) : (s.setDirty k b).fqlByte y = s.fqlByte y := rfl
@[simp] theorem setDirty_fqhByte (s : State) (k : Slot) (b : Bool) (y : Chan) : (s.setDirty k b).fqhByte y = s.fqhByte y := rfl
@[simp] theorem setDirty_ev0Byte (s : State) (k : Slot) (b : Bool) (y : Chan) : (s.setDirty k b).ev0Byte y = s.ev0Byte y := rfl
@[simp] theorem setDirty_ev1Byte (s : State) (k : Slot) (b : Bool) (y : Chan) : (s.setDirty k b).ev1Byte y = s.ev1Byte y := rfl
@[simp] theorem setDirty_ramByte (s : State) (k : Slot) (b : Bool) (y : Mel) : (s.setDirty k b).ramByte y = s.ramByte y := rfl
@[simp] theorem setDirty_swpByte (s : State) (k : Slot) (b : Bool) : (s.setDirty k b).swpByte = s.swpByte := rfl

/-! What `markMasked` leaves. -/

@[simp] theorem markMasked_blk_ch (s : State) (k : BitVec 5) : (s.markMasked k).blk.ch = s.blk.ch := rfl
@[simp] theorem markMasked_blk_waveIndex (s : State) (k : BitVec 5) : (s.markMasked k).blk.waveIndex = s.blk.waveIndex := rfl
@[simp] theorem markMasked_blk_nsel (s : State) (k : BitVec 5) : (s.markMasked k).blk.nsel = s.blk.nsel := rfl
@[simp] theorem markMasked_blk_failed (s : State) (k : BitVec 5) : (s.markMasked k).blk.failed = s.blk.failed := rfl
@[simp] theorem markMasked_out (s : State) (k : BitVec 5) : (s.markMasked k).out = s.out := rfl
@[simp] theorem markMasked_env (s : State) (k : BitVec 5) : (s.markMasked k).env = s.env := rfl
@[simp] theorem markMasked_chan (s : State) (k : BitVec 5) (y : Chan) : (s.markMasked k).chan y = s.chan y := rfl
@[simp] theorem markMasked_waveIndex (s : State) (k : BitVec 5) (y : Mel) : (s.markMasked k).waveIndex y = s.waveIndex y := rfl
@[simp] theorem markMasked_voice (s : State) (k : BitVec 5) (y : Chan) : (s.markMasked k).voice y = s.voice y := rfl
@[simp] theorem markMasked_memRead (s : State) (k : BitVec 5) (a : Nat) : (s.markMasked k).memRead a = s.memRead a := rfl
@[simp] theorem markMasked_map (s : State) (k : BitVec 5) : (s.markMasked k).map = s.map := rfl
@[simp] theorem markMasked_convert (s : State) (k : BitVec 5) (j : Slot) : convert j (s.markMasked k) = convert j s := rfl
@[simp] theorem markMasked_gateOpen (s : State) (k : BitVec 5) : (s.markMasked k).gateOpen = s.gateOpen := rfl
@[simp] theorem markMasked_intByte (s : State) (k : BitVec 5) (y : Chan) : (s.markMasked k).intByte y = s.intByte y := rfl
@[simp] theorem markMasked_lrvByte (s : State) (k : BitVec 5) (y : Chan) : (s.markMasked k).lrvByte y = s.lrvByte y := rfl
@[simp] theorem markMasked_fqlByte (s : State) (k : BitVec 5) (y : Chan) : (s.markMasked k).fqlByte y = s.fqlByte y := rfl
@[simp] theorem markMasked_fqhByte (s : State) (k : BitVec 5) (y : Chan) : (s.markMasked k).fqhByte y = s.fqhByte y := rfl
@[simp] theorem markMasked_ev0Byte (s : State) (k : BitVec 5) (y : Chan) : (s.markMasked k).ev0Byte y = s.ev0Byte y := rfl
@[simp] theorem markMasked_ev1Byte (s : State) (k : BitVec 5) (y : Chan) : (s.markMasked k).ev1Byte y = s.ev1Byte y := rfl
@[simp] theorem markMasked_ramByte (s : State) (k : BitVec 5) (y : Mel) : (s.markMasked k).ramByte y = s.ramByte y := rfl
@[simp] theorem markMasked_swpByte (s : State) (k : BitVec 5) : (s.markMasked k).swpByte = s.swpByte := rfl

/-! What `setPlaying` leaves. -/

@[simp] theorem setPlaying_blk_ch (s : State) (b : Bool) : (s.setPlaying b).blk.ch = s.blk.ch := rfl
@[simp] theorem setPlaying_blk_waveIndex (s : State) (b : Bool) : (s.setPlaying b).blk.waveIndex = s.blk.waveIndex := rfl
@[simp] theorem setPlaying_blk_dirty (s : State) (b : Bool) : (s.setPlaying b).blk.dirty = s.blk.dirty := rfl
@[simp] theorem setPlaying_blk_failed (s : State) (b : Bool) : (s.setPlaying b).blk.failed = s.blk.failed := rfl
@[simp] theorem setPlaying_out (s : State) (b : Bool) : (s.setPlaying b).out = s.out := rfl
@[simp] theorem setPlaying_env (s : State) (b : Bool) : (s.setPlaying b).env = s.env := rfl
@[simp] theorem setPlaying_chan (s : State) (b : Bool) (y : Chan) : (s.setPlaying b).chan y = s.chan y := rfl
@[simp] theorem setPlaying_waveIndex (s : State) (b : Bool) (y : Mel) : (s.setPlaying b).waveIndex y = s.waveIndex y := rfl
@[simp] theorem setPlaying_dirty (s : State) (b : Bool) (j : Slot) : (s.setPlaying b).dirty j = s.dirty j := rfl
@[simp] theorem setPlaying_voice (s : State) (b : Bool) (y : Chan) : (s.setPlaying b).voice y = s.voice y := rfl
@[simp] theorem setPlaying_memRead (s : State) (b : Bool) (a : Nat) : (s.setPlaying b).memRead a = s.memRead a := rfl
@[simp] theorem setPlaying_map (s : State) (b : Bool) : (s.setPlaying b).map = s.map := rfl
@[simp] theorem setPlaying_convert (s : State) (b : Bool) (j : Slot) : convert j (s.setPlaying b) = convert j s := rfl
@[simp] theorem setPlaying_gateOpen (s : State) (b : Bool) : (s.setPlaying b).gateOpen = s.gateOpen := rfl
@[simp] theorem setPlaying_intByte (s : State) (b : Bool) (y : Chan) : (s.setPlaying b).intByte y = s.intByte y := rfl
@[simp] theorem setPlaying_lrvByte (s : State) (b : Bool) (y : Chan) : (s.setPlaying b).lrvByte y = s.lrvByte y := rfl
@[simp] theorem setPlaying_fqlByte (s : State) (b : Bool) (y : Chan) : (s.setPlaying b).fqlByte y = s.fqlByte y := rfl
@[simp] theorem setPlaying_fqhByte (s : State) (b : Bool) (y : Chan) : (s.setPlaying b).fqhByte y = s.fqhByte y := rfl
@[simp] theorem setPlaying_ev0Byte (s : State) (b : Bool) (y : Chan) : (s.setPlaying b).ev0Byte y = s.ev0Byte y := rfl
@[simp] theorem setPlaying_ev1Byte (s : State) (b : Bool) (y : Chan) : (s.setPlaying b).ev1Byte y = s.ev1Byte y := rfl
@[simp] theorem setPlaying_ramByte (s : State) (b : Bool) (y : Mel) : (s.setPlaying b).ramByte y = s.ramByte y := rfl
@[simp] theorem setPlaying_swpByte (s : State) (b : Bool) : (s.setPlaying b).swpByte = s.swpByte := rfl

/-! What `setNoiseActive` leaves. -/

@[simp] theorem setNoiseActive_blk_ch (s : State) (n : NoiseIx) : (s.setNoiseActive n).blk.ch = s.blk.ch := rfl
@[simp] theorem setNoiseActive_blk_waveIndex (s : State) (n : NoiseIx) : (s.setNoiseActive n).blk.waveIndex = s.blk.waveIndex := rfl
@[simp] theorem setNoiseActive_blk_dirty (s : State) (n : NoiseIx) : (s.setNoiseActive n).blk.dirty = s.blk.dirty := rfl
@[simp] theorem setNoiseActive_blk_failed (s : State) (n : NoiseIx) : (s.setNoiseActive n).blk.failed = s.blk.failed := rfl
@[simp] theorem setNoiseActive_out (s : State) (n : NoiseIx) : (s.setNoiseActive n).out = s.out := rfl
@[simp] theorem setNoiseActive_env (s : State) (n : NoiseIx) : (s.setNoiseActive n).env = s.env := rfl
@[simp] theorem setNoiseActive_chan (s : State) (n : NoiseIx) (y : Chan) : (s.setNoiseActive n).chan y = s.chan y := rfl
@[simp] theorem setNoiseActive_waveIndex (s : State) (n : NoiseIx) (y : Mel) : (s.setNoiseActive n).waveIndex y = s.waveIndex y := rfl
@[simp] theorem setNoiseActive_dirty (s : State) (n : NoiseIx) (j : Slot) : (s.setNoiseActive n).dirty j = s.dirty j := rfl
@[simp] theorem setNoiseActive_memRead (s : State) (n : NoiseIx) (a : Nat) : (s.setNoiseActive n).memRead a = s.memRead a := rfl
@[simp] theorem setNoiseActive_map (s : State) (n : NoiseIx) : (s.setNoiseActive n).map = s.map := rfl
@[simp] theorem setNoiseActive_convert (s : State) (n : NoiseIx) (j : Slot) : convert j (s.setNoiseActive n) = convert j s := rfl
@[simp] theorem setNoiseActive_gateOpen (s : State) (n : NoiseIx) : (s.setNoiseActive n).gateOpen = s.gateOpen := rfl
@[simp] theorem setNoiseActive_intByte (s : State) (n : NoiseIx) (y : Chan) : (s.setNoiseActive n).intByte y = s.intByte y := rfl
@[simp] theorem setNoiseActive_lrvByte (s : State) (n : NoiseIx) (y : Chan) : (s.setNoiseActive n).lrvByte y = s.lrvByte y := rfl
@[simp] theorem setNoiseActive_fqlByte (s : State) (n : NoiseIx) (y : Chan) : (s.setNoiseActive n).fqlByte y = s.fqlByte y := rfl
@[simp] theorem setNoiseActive_fqhByte (s : State) (n : NoiseIx) (y : Chan) : (s.setNoiseActive n).fqhByte y = s.fqhByte y := rfl
@[simp] theorem setNoiseActive_ev0Byte (s : State) (n : NoiseIx) (y : Chan) : (s.setNoiseActive n).ev0Byte y = s.ev0Byte y := rfl
@[simp] theorem setNoiseActive_ev1Byte (s : State) (n : NoiseIx) (y : Chan) : (s.setNoiseActive n).ev1Byte y = s.ev1Byte y := rfl
@[simp] theorem setNoiseActive_ramByte (s : State) (n : NoiseIx) (y : Mel) : (s.setNoiseActive n).ramByte y = s.ramByte y := rfl
@[simp] theorem setNoiseActive_swpByte (s : State) (n : NoiseIx) : (s.setNoiseActive n).swpByte = s.swpByte := rfl

/-! What `emit` leaves. -/

@[simp] theorem emit_blk (s : State) (c : Cmd) : (s.emit c).blk = s.blk := rfl
@[simp] theorem emit_env (s : State) (c : Cmd) : (s.emit c).env = s.env := rfl
@[simp] theorem emit_chan (s : State) (c : Cmd) (y : Chan) : (s.emit c).chan y = s.chan y := rfl
@[simp] theorem emit_waveIndex (s : State) (c : Cmd) (y : Mel) : (s.emit c).waveIndex y = s.waveIndex y := rfl
@[simp] theorem emit_dirty (s : State) (c : Cmd) (j : Slot) : (s.emit c).dirty j = s.dirty j := rfl
@[simp] theorem emit_voice (s : State) (c : Cmd) (y : Chan) : (s.emit c).voice y = s.voice y := rfl
@[simp] theorem emit_memRead (s : State) (c : Cmd) (a : Nat) : (s.emit c).memRead a = s.memRead a := rfl
@[simp] theorem emit_map (s : State) (c : Cmd) : (s.emit c).map = s.map := rfl
@[simp] theorem emit_convert (s : State) (c : Cmd) (j : Slot) : convert j (s.emit c) = convert j s := rfl
@[simp] theorem emit_gateOpen (s : State) (c : Cmd) : (s.emit c).gateOpen = s.gateOpen := rfl
@[simp] theorem emit_intByte (s : State) (c : Cmd) (y : Chan) : (s.emit c).intByte y = s.intByte y := rfl
@[simp] theorem emit_lrvByte (s : State) (c : Cmd) (y : Chan) : (s.emit c).lrvByte y = s.lrvByte y := rfl
@[simp] theorem emit_fqlByte (s : State) (c : Cmd) (y : Chan) : (s.emit c).fqlByte y = s.fqlByte y := rfl
@[simp] theorem emit_fqhByte (s : State) (c : Cmd) (y : Chan) : (s.emit c).fqhByte y = s.fqhByte y := rfl
@[simp] theorem emit_ev0Byte (s : State) (c : Cmd) (y : Chan) : (s.emit c).ev0Byte y = s.ev0Byte y := rfl
@[simp] theorem emit_ev1Byte (s : State) (c : Cmd) (y : Chan) : (s.emit c).ev1Byte y = s.ev1Byte y := rfl
@[simp] theorem emit_ramByte (s : State) (c : Cmd) (y : Mel) : (s.emit c).ramByte y = s.ramByte y := rfl
@[simp] theorem emit_swpByte (s : State) (c : Cmd) : (s.emit c).swpByte = s.swpByte := rfl

/-! What `emits` leaves. -/

@[simp] theorem emits_blk (s : State) (cs : List Cmd) : (s.emits cs).blk = s.blk := rfl
@[simp] theorem emits_env (s : State) (cs : List Cmd) : (s.emits cs).env = s.env := rfl
@[simp] theorem emits_chan (s : State) (cs : List Cmd) (y : Chan) : (s.emits cs).chan y = s.chan y := rfl
@[simp] theorem emits_waveIndex (s : State) (cs : List Cmd) (y : Mel) : (s.emits cs).waveIndex y = s.waveIndex y := rfl
@[simp] theorem emits_dirty (s : State) (cs : List Cmd) (j : Slot) : (s.emits cs).dirty j = s.dirty j := rfl
@[simp] theorem emits_voice (s : State) (cs : List Cmd) (y : Chan) : (s.emits cs).voice y = s.voice y := rfl
@[simp] theorem emits_memRead (s : State) (cs : List Cmd) (a : Nat) : (s.emits cs).memRead a = s.memRead a := rfl
@[simp] theorem emits_map (s : State) (cs : List Cmd) : (s.emits cs).map = s.map := rfl
@[simp] theorem emits_convert (s : State) (cs : List Cmd) (j : Slot) : convert j (s.emits cs) = convert j s := rfl
@[simp] theorem emits_gateOpen (s : State) (cs : List Cmd) : (s.emits cs).gateOpen = s.gateOpen := rfl
@[simp] theorem emits_intByte (s : State) (cs : List Cmd) (y : Chan) : (s.emits cs).intByte y = s.intByte y := rfl
@[simp] theorem emits_lrvByte (s : State) (cs : List Cmd) (y : Chan) : (s.emits cs).lrvByte y = s.lrvByte y := rfl
@[simp] theorem emits_fqlByte (s : State) (cs : List Cmd) (y : Chan) : (s.emits cs).fqlByte y = s.fqlByte y := rfl
@[simp] theorem emits_fqhByte (s : State) (cs : List Cmd) (y : Chan) : (s.emits cs).fqhByte y = s.fqhByte y := rfl
@[simp] theorem emits_ev0Byte (s : State) (cs : List Cmd) (y : Chan) : (s.emits cs).ev0Byte y = s.ev0Byte y := rfl
@[simp] theorem emits_ev1Byte (s : State) (cs : List Cmd) (y : Chan) : (s.emits cs).ev1Byte y = s.ev1Byte y := rfl
@[simp] theorem emits_ramByte (s : State) (cs : List Cmd) (y : Mel) : (s.emits cs).ramByte y = s.ramByte y := rfl
@[simp] theorem emits_swpByte (s : State) (cs : List Cmd) : (s.emits cs).swpByte = s.swpByte := rfl

/-! What `memWrite` leaves. -/

@[simp] theorem memWrite_blk (s : State) (b : Nat) (v : Byte) : (s.memWrite b v).blk = s.blk := rfl
@[simp] theorem memWrite_out (s : State) (b : Nat) (v : Byte) : (s.memWrite b v).out = s.out := rfl
@[simp] theorem memWrite_env_cfg (s : State) (b : Nat) (v : Byte) : (s.memWrite b v).env.cfg = s.env.cfg := rfl
@[simp] theorem memWrite_env_alive (s : State) (b : Nat) (v : Byte) : (s.memWrite b v).env.alive = s.env.alive := rfl
@[simp] theorem memWrite_env_sndEn (s : State) (b : Nat) (v : Byte) : (s.memWrite b v).env.sndEn = s.env.sndEn := rfl
@[simp] theorem memWrite_env_inbox (s : State) (b : Nat) (v : Byte) : (s.memWrite b v).env.inbox = s.env.inbox := rfl
@[simp] theorem memWrite_env_backend (s : State) (b : Nat) (v : Byte) : (s.memWrite b v).env.backend = s.env.backend := rfl
@[simp] theorem memWrite_env_draws (s : State) (b : Nat) (v : Byte) : (s.memWrite b v).env.draws = s.env.draws := rfl
@[simp] theorem memWrite_env_sample (s : State) (b : Nat) (v : Byte) : (s.memWrite b v).env.sample = s.env.sample := rfl
@[simp] theorem memWrite_env_reports (s : State) (b : Nat) (v : Byte) : (s.memWrite b v).env.reports = s.env.reports := rfl
@[simp] theorem memWrite_chan (s : State) (b : Nat) (v : Byte) (y : Chan) : (s.memWrite b v).chan y = s.chan y := rfl
@[simp] theorem memWrite_waveIndex (s : State) (b : Nat) (v : Byte) (y : Mel) : (s.memWrite b v).waveIndex y = s.waveIndex y := rfl
@[simp] theorem memWrite_dirty (s : State) (b : Nat) (v : Byte) (j : Slot) : (s.memWrite b v).dirty j = s.dirty j := rfl
@[simp] theorem memWrite_voice (s : State) (b : Nat) (v : Byte) (y : Chan) : (s.memWrite b v).voice y = s.voice y := rfl
@[simp] theorem memWrite_map (s : State) (b : Nat) (v : Byte) : (s.memWrite b v).map = s.map := rfl
@[simp] theorem memWrite_gateOpen (s : State) (b : Nat) (v : Byte) : (s.memWrite b v).gateOpen = s.gateOpen := rfl

/-! What `sampleFeedback` leaves. -/

@[simp] theorem sampleFeedback_blk (s : State) : (s.sampleFeedback).blk = s.blk := rfl
@[simp] theorem sampleFeedback_out (s : State) : (s.sampleFeedback).out = s.out := rfl
@[simp] theorem sampleFeedback_env_cfg (s : State) : (s.sampleFeedback).env.cfg = s.env.cfg := rfl
@[simp] theorem sampleFeedback_env_alive (s : State) : (s.sampleFeedback).env.alive = s.env.alive := rfl
@[simp] theorem sampleFeedback_env_sndEn (s : State) : (s.sampleFeedback).env.sndEn = s.env.sndEn := rfl
@[simp] theorem sampleFeedback_env_bus (s : State) : (s.sampleFeedback).env.bus = s.env.bus := rfl
@[simp] theorem sampleFeedback_env_inbox (s : State) : (s.sampleFeedback).env.inbox = s.env.inbox := rfl
@[simp] theorem sampleFeedback_env_backend (s : State) : (s.sampleFeedback).env.backend = s.env.backend := rfl
@[simp] theorem sampleFeedback_env_reports (s : State) : (s.sampleFeedback).env.reports = s.env.reports := rfl
@[simp] theorem sampleFeedback_chan (s : State) (y : Chan) : (s.sampleFeedback).chan y = s.chan y := rfl
@[simp] theorem sampleFeedback_waveIndex (s : State) (y : Mel) : (s.sampleFeedback).waveIndex y = s.waveIndex y := rfl
@[simp] theorem sampleFeedback_dirty (s : State) (j : Slot) : (s.sampleFeedback).dirty j = s.dirty j := rfl
@[simp] theorem sampleFeedback_voice (s : State) (y : Chan) : (s.sampleFeedback).voice y = s.voice y := rfl
@[simp] theorem sampleFeedback_memRead (s : State) (a : Nat) : (s.sampleFeedback).memRead a = s.memRead a := rfl
@[simp] theorem sampleFeedback_map (s : State) : (s.sampleFeedback).map = s.map := rfl
@[simp] theorem sampleFeedback_convert (s : State) (j : Slot) : convert j (s.sampleFeedback) = convert j s := rfl
@[simp] theorem sampleFeedback_gateOpen (s : State) : (s.sampleFeedback).gateOpen = s.gateOpen := rfl
@[simp] theorem sampleFeedback_intByte (s : State) (y : Chan) : (s.sampleFeedback).intByte y = s.intByte y := rfl
@[simp] theorem sampleFeedback_lrvByte (s : State) (y : Chan) : (s.sampleFeedback).lrvByte y = s.lrvByte y := rfl
@[simp] theorem sampleFeedback_fqlByte (s : State) (y : Chan) : (s.sampleFeedback).fqlByte y = s.fqlByte y := rfl
@[simp] theorem sampleFeedback_fqhByte (s : State) (y : Chan) : (s.sampleFeedback).fqhByte y = s.fqhByte y := rfl
@[simp] theorem sampleFeedback_ev0Byte (s : State) (y : Chan) : (s.sampleFeedback).ev0Byte y = s.ev0Byte y := rfl
@[simp] theorem sampleFeedback_ev1Byte (s : State) (y : Chan) : (s.sampleFeedback).ev1Byte y = s.ev1Byte y := rfl
@[simp] theorem sampleFeedback_ramByte (s : State) (y : Mel) : (s.sampleFeedback).ramByte y = s.ramByte y := rfl
@[simp] theorem sampleFeedback_swpByte (s : State) : (s.sampleFeedback).swpByte = s.swpByte := rfl

/-! What `setInbox` leaves. -/

@[simp] theorem setInbox_blk (s : State) (l : List HostAction) : (s.setInbox l).blk = s.blk := rfl
@[simp] theorem setInbox_out (s : State) (l : List HostAction) : (s.setInbox l).out = s.out := rfl
@[simp] theorem setInbox_env_cfg (s : State) (l : List HostAction) : (s.setInbox l).env.cfg = s.env.cfg := rfl
@[simp] theorem setInbox_env_alive (s : State) (l : List HostAction) : (s.setInbox l).env.alive = s.env.alive := rfl
@[simp] theorem setInbox_env_sndEn (s : State) (l : List HostAction) : (s.setInbox l).env.sndEn = s.env.sndEn := rfl
@[simp] theorem setInbox_env_bus (s : State) (l : List HostAction) : (s.setInbox l).env.bus = s.env.bus := rfl
@[simp] theorem setInbox_env_backend (s : State) (l : List HostAction) : (s.setInbox l).env.backend = s.env.backend := rfl
@[simp] theorem setInbox_env_draws (s : State) (l : List HostAction) : (s.setInbox l).env.draws = s.env.draws := rfl
@[simp] theorem setInbox_env_sample (s : State) (l : List HostAction) : (s.setInbox l).env.sample = s.env.sample := rfl
@[simp] theorem setInbox_env_reports (s : State) (l : List HostAction) : (s.setInbox l).env.reports = s.env.reports := rfl
@[simp] theorem setInbox_chan (s : State) (l : List HostAction) (y : Chan) : (s.setInbox l).chan y = s.chan y := rfl
@[simp] theorem setInbox_waveIndex (s : State) (l : List HostAction) (y : Mel) : (s.setInbox l).waveIndex y = s.waveIndex y := rfl
@[simp] theorem setInbox_dirty (s : State) (l : List HostAction) (j : Slot) : (s.setInbox l).dirty j = s.dirty j := rfl
@[simp] theorem setInbox_voice (s : State) (l : List HostAction) (y : Chan) : (s.setInbox l).voice y = s.voice y := rfl
@[simp] theorem setInbox_memRead (s : State) (l : List HostAction) (a : Nat) : (s.setInbox l).memRead a = s.memRead a := rfl
@[simp] theorem setInbox_map (s : State) (l : List HostAction) : (s.setInbox l).map = s.map := rfl
@[simp] theorem setInbox_convert (s : State) (l : List HostAction) (j : Slot) : convert j (s.setInbox l) = convert j s := rfl
@[simp] theorem setInbox_gateOpen (s : State) (l : List HostAction) : (s.setInbox l).gateOpen = s.gateOpen := rfl
@[simp] theorem setInbox_intByte (s : State) (l : List HostAction) (y : Chan) : (s.setInbox l).intByte y = s.intByte y := rfl
@[simp] theorem setInbox_lrvByte (s : State) (l : List HostAction) (y : Chan) : (s.setInbox l).lrvByte y = s.lrvByte y := rfl
@[simp] theorem setInbox_fqlByte (s : State) (l : List HostAction) (y : Chan) : (s.setInbox l).fqlByte y = s.fqlByte y := rfl
@[simp] theorem setInbox_fqhByte (s : State) (l : List HostAction) (y : Chan) : (s.setInbox l).fqhByte y = s.fqhByte y := rfl
@[simp] theorem setInbox_ev0Byte (s : State) (l : List HostAction) (y : Chan) : (s.setInbox l).ev0Byte y = s.ev0Byte y := rfl
@[simp] theorem setInbox_ev1Byte (s : State) (l : List HostAction) (y : Chan) : (s.setInbox l).ev1Byte y = s.ev1Byte y := rfl
@[simp] theorem setInbox_ramByte (s : State) (l : List HostAction) (y : Mel) : (s.setInbox l).ramByte y = s.ramByte y := rfl
@[simp] theorem setInbox_swpByte (s : State) (l : List HostAction) : (s.setInbox l).swpByte = s.swpByte := rfl

@[simp] theorem emits_out (s : State) (cs : List Cmd) : (s.emits cs).out = s.out ++ cs := rfl
@[simp] theorem emit_out (s : State) (c : Cmd) : (s.emit c).out = s.out ++ [c] := rfl
@[simp] theorem setPlaying_playing (s : State) (b : Bool) : (s.setPlaying b).blk.nsel.playing = b := rfl
@[simp] theorem setPlaying_active (s : State) (b : Bool) : (s.setPlaying b).blk.nsel.active = s.blk.nsel.active := rfl
@[simp] theorem setNoiseActive_active (s : State) (n : NoiseIx) : (s.setNoiseActive n).blk.nsel.active = n := rfl
@[simp] theorem setNoiseActive_playing (s : State) (n : NoiseIx) :
    (s.setNoiseActive n).blk.nsel.playing = s.blk.nsel.playing := rfl
@[simp] theorem setInbox_inbox (s : State) (l : List HostAction) : (s.setInbox l).env.inbox = l := rfl
@[simp] theorem sampleFeedback_draws (s : State) : s.sampleFeedback.env.draws = s.env.draws + 1 := rfl
@[simp] theorem sampleFeedback_sample (s : State) : s.sampleFeedback.env.sample = s.answer := rfl
@[simp] theorem memWrite_bus (s : State) (b : Nat) (v : Byte) : (s.memWrite b v).env.bus = s.env.bus.write b v := rfl
@[simp] theorem voice_mel (s : State) (m : Mel) : s.voice (.mel m) = .V m := rfl
@[simp] theorem voice_noise (s : State) : s.voice .noise = .N s.blk.nsel.active := rfl

/-! Updates of different parts commute; commands move to the outside. -/

@[simp] theorem setChan_emits (s : State) (x : Chan) (c : Channel) (cs : List Cmd) :
    (s.emits cs).setChan x c = (s.setChan x c).emits cs := rfl
@[simp] theorem setDirty_emits (s : State) (k : Slot) (b : Bool) (cs : List Cmd) :
    (s.emits cs).setDirty k b = (s.setDirty k b).emits cs := rfl
@[simp] theorem setPlaying_emits (s : State) (b : Bool) (cs : List Cmd) :
    (s.emits cs).setPlaying b = (s.setPlaying b).emits cs := rfl
@[simp] theorem setNoiseActive_emits (s : State) (n : NoiseIx) (cs : List Cmd) :
    (s.emits cs).setNoiseActive n = (s.setNoiseActive n).emits cs := rfl

end Sys2Proof.Machine
end

