-- ==== Sys2Proof/Laws/Ops.lean ====
section
/-! SUPPORT. Each shared operation said once: the fields it writes and the commands it appends; and which operations each
family of rows runs. -/

/- One theorem at a time: each one elaborated on its own thread takes that thread's stack. -/
set_option Elab.async false

namespace Sys2Proof.Machine

/-! Which operations a row runs. -/

theorem exec_waveOf (k : Slot) (off : Nat) (s : State) : exec (.waveOf k off) s = .next (markDirty k s) := by
  fin_cases k <;> rfl

theorem exec_moddata (off : Nat) (s : State) : exec (.moddata off) s = .next (markDirtyMod s) := rfl

theorem exec_ramOf (m : Mel) (s : State) : exec (.ramOf m) s = .next (waveSel m s) := by cases m <;> rfl

theorem exec_intOf_mel (m : Mel) (s : State) : exec (.intOf (.mel m)) s = .next (enableMelodic m s) := by
  cases m <;> rfl

theorem exec_intOf_noise (s : State) : exec (.intOf .noise) s = .next (enableNoise s) := rfl

theorem exec_lrvOf (x : Chan) (s : State) : exec (.lrvOf x) s = .next (volPan x s) := by
  rcases x with (_ | _ | _ | _ | _) | _ <;> rfl

theorem exec_ev0Of (x : Chan) (s : State) : exec (.ev0Of x) s = .next (envelope x (volPan x s)) := by
  rcases x with (_ | _ | _ | _ | _) | _ <;> rfl

theorem exec_ev1Of_mel {m : Mel} (h : m ≠ .ch5) (s : State) :
    exec (.ev1Of (.mel m)) s = .next (envelope (.mel m) (volPan (.mel m) s)) := by
  cases m <;> first | rfl | exact absurd rfl h

theorem exec_ev1Of_full (s : State) : exec (.ev1Of .full) s = .next (sweep (envelope .full (volPan .full s))) := rfl

theorem exec_ev1Of_noise (s : State) :
    exec (.ev1Of .noise) s = .next (envelope .noise (volPan .noise (noiseSelect s))) := rfl

theorem exec_fqlOf (x : Chan) (s : State) : exec (.fqlOf x) s = .next (freq x s) := by
  rcases x with (_ | _ | _ | _ | _) | _ <;> rfl

theorem exec_fqhOf (x : Chan) (s : State) : exec (.fqhOf x) s = .next (freq x s) := by
  rcases x with (_ | _ | _ | _ | _) | _ <;> rfl

/-- Every row runs one of these. -/
theorem exec_cases (i : Instr) (s : State) :
    (∃ k off, i = .waveOf k off ∧ exec i s = .next (markDirty k s)) ∨
    (∃ off, i = .moddata off ∧ exec i s = .next (markDirtyMod s)) ∨
    (∃ m, i = .ramOf m ∧ exec i s = .next (waveSel m s)) ∨
    (∃ m, i = .intOf (.mel m) ∧ exec i s = .next (enableMelodic m s)) ∨
    (i = .intOf .noise ∧ exec i s = .next (enableNoise s)) ∨
    (∃ x, i = .lrvOf x ∧ exec i s = .next (volPan x s)) ∨
    (∃ x, (i = .ev0Of x ∨ i = .ev1Of x ∧ x ≠ .full ∧ x ≠ .noise) ∧ exec i s = .next (envelope x (volPan x s))) ∨
    (i = .ev1Of .full ∧ exec i s = .next (sweep (envelope .full (volPan .full s)))) ∨
    (i = .ev1Of .noise ∧ exec i s = .next (envelope .noise (volPan .noise (noiseSelect s)))) ∨
    (i = .s5swp ∧ exec i s = .next (sweep s)) ∨
    (∃ x, (i = .fqlOf x ∨ i = .fqhOf x) ∧ exec i s = .next (freq x s)) ∨
    (i = .sstop ∧ exec i s = .next (stopAll s)) ∨
    (∃ a, i = .undef a ∧ exec i s = .next s) := by
  cases i with
  | wave0 off => exact .inl ⟨0, off, rfl, rfl⟩
  | wave1 off => exact .inl ⟨1, off, rfl, rfl⟩
  | wave2 off => exact .inl ⟨2, off, rfl, rfl⟩
  | wave3 off => exact .inl ⟨3, off, rfl, rfl⟩
  | wave4 off => exact .inl ⟨4, off, rfl, rfl⟩
  | moddata off => exact .inr (.inl ⟨off, rfl, rfl⟩)
  | s1int => exact .inr (.inr (.inr (.inl ⟨.ch1, rfl, rfl⟩)))
  | s1lrv => exact .inr (.inr (.inr (.inr (.inr (.inl ⟨(.mel .ch1), rfl, rfl⟩)))))
  | s1fql => exact .inr (.inr (.inr (.inr (.inr (.inr (.inr (.inr (.inr (.inr (.inl ⟨(.mel .ch1), .inl rfl, rfl⟩))))))))))
  | s1fqh => exact .inr (.inr (.inr (.inr (.inr (.inr (.inr (.inr (.inr (.inr (.inl ⟨(.mel .ch1), .inr rfl, rfl⟩))))))))))
  | s1ev0 => exact .inr (.inr (.inr (.inr (.inr (.inr (.inl ⟨(.mel .ch1), .inl rfl, rfl⟩))))))
  | s1ev1 => exact .inr (.inr (.inr (.inr (.inr (.inr (.inl ⟨(.mel .ch1), .inr ⟨rfl, by decide, by decide⟩, rfl⟩))))))
  | s1ram => exact .inr (.inr (.inl ⟨.ch1, rfl, rfl⟩))
  | s2int => exact .inr (.inr (.inr (.inl ⟨.ch2, rfl, rfl⟩)))
  | s2lrv => exact .inr (.inr (.inr (.inr (.inr (.inl ⟨(.mel .ch2), rfl, rfl⟩)))))
  | s2fql => exact .inr (.inr (.inr (.inr (.inr (.inr (.inr (.inr (.inr (.inr (.inl ⟨(.mel .ch2), .inl rfl, rfl⟩))))))))))
  | s2fqh => exact .inr (.inr (.inr (.inr (.inr (.inr (.inr (.inr (.inr (.inr (.inl ⟨(.mel .ch2), .inr rfl, rfl⟩))))))))))
  | s2ev0 => exact .inr (.inr (.inr (.inr (.inr (.inr (.inl ⟨(.mel .ch2), .inl rfl, rfl⟩))))))
  | s2ev1 => exact .inr (.inr (.inr (.inr (.inr (.inr (.inl ⟨(.mel .ch2), .inr ⟨rfl, by decide, by decide⟩, rfl⟩))))))
  | s2ram => exact .inr (.inr (.inl ⟨.ch2, rfl, rfl⟩))
  | s3int => exact .inr (.inr (.inr (.inl ⟨.ch3, rfl, rfl⟩)))
  | s3lrv => exact .inr (.inr (.inr (.inr (.inr (.inl ⟨(.mel .ch3), rfl, rfl⟩)))))
  | s3fql => exact .inr (.inr (.inr (.inr (.inr (.inr (.inr (.inr (.inr (.inr (.inl ⟨(.mel .ch3), .inl rfl, rfl⟩))))))))))
  | s3fqh => exact .inr (.inr (.inr (.inr (.inr (.inr (.inr (.inr (.inr (.inr (.inl ⟨(.mel .ch3), .inr rfl, rfl⟩))))))))))
  | s3ev0 => exact .inr (.inr (.inr (.inr (.inr (.inr (.inl ⟨(.mel .ch3), .inl rfl, rfl⟩))))))
  | s3ev1 => exact .inr (.inr (.inr (.inr (.inr (.inr (.inl ⟨(.mel .ch3), .inr ⟨rfl, by decide, by decide⟩, rfl⟩))))))
  | s3ram => exact .inr (.inr (.inl ⟨.ch3, rfl, rfl⟩))
  | s4int => exact .inr (.inr (.inr (.inl ⟨.ch4, rfl, rfl⟩)))
  | s4lrv => exact .inr (.inr (.inr (.inr (.inr (.inl ⟨(.mel .ch4), rfl, rfl⟩)))))
  | s4fql => exact .inr (.inr (.inr (.inr (.inr (.inr (.inr (.inr (.inr (.inr (.inl ⟨(.mel .ch4), .inl rfl, rfl⟩))))))))))
  | s4fqh => exact .inr (.inr (.inr (.inr (.inr (.inr (.inr (.inr (.inr (.inr (.inl ⟨(.mel .ch4), .inr rfl, rfl⟩))))))))))
  | s4ev0 => exact .inr (.inr (.inr (.inr (.inr (.inr (.inl ⟨(.mel .ch4), .inl rfl, rfl⟩))))))
  | s4ev1 => exact .inr (.inr (.inr (.inr (.inr (.inr (.inl ⟨(.mel .ch4), .inr ⟨rfl, by decide, by decide⟩, rfl⟩))))))
  | s4ram => exact .inr (.inr (.inl ⟨.ch4, rfl, rfl⟩))
  | s5int => exact .inr (.inr (.inr (.inl ⟨.ch5, rfl, rfl⟩)))
  | s5lrv => exact .inr (.inr (.inr (.inr (.inr (.inl ⟨(.mel .ch5), rfl, rfl⟩)))))
  | s5fql => exact .inr (.inr (.inr (.inr (.inr (.inr (.inr (.inr (.inr (.inr (.inl ⟨(.mel .ch5), .inl rfl, rfl⟩))))))))))
  | s5fqh => exact .inr (.inr (.inr (.inr (.inr (.inr (.inr (.inr (.inr (.inr (.inl ⟨(.mel .ch5), .inr rfl, rfl⟩))))))))))
  | s5ev0 => exact .inr (.inr (.inr (.inr (.inr (.inr (.inl ⟨(.mel .ch5), .inl rfl, rfl⟩))))))
  | s5ev1 => exact .inr (.inr (.inr (.inr (.inr (.inr (.inr (.inl ⟨rfl, rfl⟩)))))))
  | s5ram => exact .inr (.inr (.inl ⟨.ch5, rfl, rfl⟩))
  | s6int => exact .inr (.inr (.inr (.inr (.inl ⟨rfl, rfl⟩))))
  | s6lrv => exact .inr (.inr (.inr (.inr (.inr (.inl ⟨.noise, rfl, rfl⟩)))))
  | s6fql => exact .inr (.inr (.inr (.inr (.inr (.inr (.inr (.inr (.inr (.inr (.inl ⟨.noise, .inl rfl, rfl⟩))))))))))
  | s6fqh => exact .inr (.inr (.inr (.inr (.inr (.inr (.inr (.inr (.inr (.inr (.inl ⟨.noise, .inr rfl, rfl⟩))))))))))
  | s6ev0 => exact .inr (.inr (.inr (.inr (.inr (.inr (.inl ⟨.noise, .inl rfl, rfl⟩))))))
  | s6ev1 => exact .inr (.inr (.inr (.inr (.inr (.inr (.inr (.inr (.inl ⟨rfl, rfl⟩))))))))
  | s5swp => exact .inr (.inr (.inr (.inr (.inr (.inr (.inr (.inr (.inr (.inl ⟨rfl, rfl⟩)))))))))
  | sstop => exact .inr (.inr (.inr (.inr (.inr (.inr (.inr (.inr (.inr (.inr (.inr (.inl ⟨rfl, rfl⟩)))))))))))
  | undef a => exact .inr (.inr (.inr (.inr (.inr (.inr (.inr (.inr (.inr (.inr (.inr (.inr (⟨a, rfl, rfl⟩))))))))))))

/-! What each operation does. -/

/-- Recopy and upload: one flag cleared, one command (40_waveform_store.md R132, R134). -/
theorem recopyUpload_eq (m : Mel) (k : Slot) (s : State) :
    recopyUpload m k s = (s.setDirty k false).emits [.upload (.V m) (convert k s)] := rfl

theorem waveSel_illegal {m : Mel} {s : State} (h : legalIndex (ramWidx (s.ramByte m)) = none) : waveSel m s = s := by
  simp [waveSel, h]

theorem waveSel_enabled {m : Mel} {s : State} {w : Slot} (h : legalIndex (ramWidx (s.ramByte m)) = some w)
    (he : (s.chan (.mel m)).enabled = true) : waveSel m s = s.setWaveIndex m w := by
  simp [waveSel, h, he]

theorem waveSel_disabled {m : Mel} {s : State} {w : Slot} (h : legalIndex (ramWidx (s.ramByte m)) = some w)
    (he : (s.chan (.mel m)).enabled = false) :
    waveSel m s = ((s.setWaveIndex m w).setDirty w false).emits [.upload (.V m) (convert w s)] := by
  simp [waveSel, h, he, recopyUpload_eq]

/-- Step (a) of the enable transition (41_channel_enable.md R151). -/
theorem uploadIfDirty_eq (m : Mel) (s : State) :
    uploadIfDirty m s = if s.dirty (s.waveIndex m) then
      (s.setDirty (s.waveIndex m) false).emits [.upload (.V m) (convert (s.waveIndex m) s)] else s := rfl

/-- Step (b) of the enable transition (41_channel_enable.md R152). -/
theorem armInterval_eq (x : Chan) (b : Byte) (s : State) :
    armInterval x b s = if intIe b then
      (s.setChan x { s.chan x with sweep := { (s.chan x).sweep with intervalTime := intervalDuration b } }).emits
        [.sweepFreq (s.voice x) (intervalDuration b) s.env.sample.freq] else s := by
  unfold armInterval; split <;> rfl

/-- Steps (c) and (d) of the enable transition (41_channel_enable.md R153). -/
theorem startFromZero_eq (x : Chan) (s : State) :
    startFromZero x s = s.emits [.setPos (s.voice x) 0, .start (s.voice x)] := by
  simp [startFromZero, emit_eq_emits]

theorem enableMelodic_stay {m : Mel} {s : State} (h : (s.chan (.mel m)).enabled = intEn (s.intByte (.mel m))) :
    enableMelodic m s = s := by
  unfold enableMelodic; cases hb : intEn (s.intByte (.mel m)) <;> simp [h, hb]

theorem enableMelodic_disable {m : Mel} {s : State} (he : (s.chan (.mel m)).enabled = true)
    (hb : intEn (s.intByte (.mel m)) = false) :
    enableMelodic m s = (s.setEnabled (.mel m) false).emits [.stop (.V m)] := by
  simp [enableMelodic, he, hb, emit_eq_emits, State.setEnabled]

theorem enableMelodic_enable {m : Mel} {s : State} (he : (s.chan (.mel m)).enabled = false)
    (hb : intEn (s.intByte (.mel m)) = true) :
    enableMelodic m s =
      (startFromZero (.mel m) (armInterval (.mel m) (s.intByte (.mel m)) (uploadIfDirty m s))).setEnabled (.mel m)
        true := by
  simp [enableMelodic, he, hb]

theorem enableNoise_stay {s : State} (h : (s.chan .noise).enabled = intEn (s.intByte .noise)) : enableNoise s = s := by
  unfold enableNoise; cases hb : intEn (s.intByte .noise) <;> simp [h, hb]

theorem enableNoise_disable {s : State} (he : (s.chan .noise).enabled = true) (hb : intEn (s.intByte .noise) = false) :
    enableNoise s =
      ((s.setEnabled .noise false).setPlaying false).emits [.stop (.N s.blk.nsel.active)] := by
  simp [enableNoise, he, hb, emit_eq_emits, State.setEnabled]

theorem enableNoise_enable {s : State} (he : (s.chan .noise).enabled = false) (hb : intEn (s.intByte .noise) = true) :
    enableNoise s =
      ((startFromZero .noise (armInterval .noise (s.intByte .noise) s)).setEnabled .noise true).setPlaying true := by
  simp [enableNoise, he, hb]

/-- Volume and pan: two fields of one channel, two commands (42_volume_pan.md R173). -/
theorem volPan_eq (x : Chan) (s : State) :
    volPan x s =
      (s.setChan x { s.chan x with
        volume := nominalVolume (lrvLeft (s.lrvByte x) ||| lrvRight (s.lrvByte x)) (ev0Level (s.ev0Byte x))
        pan := derivedPan (lrvLeft (s.lrvByte x)) (lrvRight (s.lrvByte x)) }).emits
        [.setVol (s.voice x)
          (nominalVolume (lrvLeft (s.lrvByte x) ||| lrvRight (s.lrvByte x)) (ev0Level (s.ev0Byte x))),
         .setPan (s.voice x) (derivedPan (lrvLeft (s.lrvByte x)) (lrvRight (s.lrvByte x)))] := by
  simp [volPan, emit_eq_emits]

/-- The envelope with its gate closed: one shadow bit, no command (43_envelope.md R191). -/
theorem envelope_closed {x : Chan} {s : State} (h : ev0En (s.ev0Byte x) = false) :
    envelope x s = s.setChan x { s.chan x with envelope := { (s.chan x).envelope with active := false } } := by
  simp [envelope, h, State.setEnvelopeActive]

/-- The envelope with its gate open: the shadow record and one ramp (43_envelope.md R192). -/
theorem envelope_open {x : Chan} {s : State} (h : ev0En (s.ev0Byte x) = true) :
    envelope x s =
      (s.setChan x { s.chan x with envelope :=
        { active := true, growing := ev1Grow (s.ev1Byte x), stepTime := envelopeStep (s.ev1Byte x),
          currentLevel := s.env.sample.vol } }).emits
        [.rampVol (s.voice x) (rampTarget (ev1Grow (s.ev1Byte x)))
          (rampDuration s.env.cfg.div16Floor (s.ev1Byte x) s.env.sample.vol)] := by
  simp [envelope, h, State.setEnvelopeActive, emit_eq_emits]

/-- The sweep unit with its gate closed or in modulation mode: two shadow bits, no command (44_sweep.md R211, R214). -/
theorem sweep_quiet {s : State} (h : (ev1SwpEn (s.ev1Byte .full) && !ev1Mod (s.ev1Byte .full)) = false) :
    sweep s = s.setSweepGate (s.ev1Byte .full) := by
  unfold sweep; simp only [h]; rfl

/-- The sweep unit in sweep mode: two shadow bits and one sweep (44_sweep.md R211 to R213). -/
theorem sweep_run {s : State} (h : (ev1SwpEn (s.ev1Byte .full) && !ev1Mod (s.ev1Byte .full)) = true) :
    sweep s = (s.setSweepGate (s.ev1Byte .full)).emits
      [.sweepFreq (.V .ch5) (sweepDuration s.swpByte (s.chan .full).frequencyReg) (sweepTarget (swpDir s.swpByte))] := by
  unfold sweep; simp only [h, if_true, emit_eq_emits]; simp [State.setSweepGate]

theorem noiseSelect_same {s : State} (h : ev1Nsel (s.ev1Byte .noise) = s.blk.nsel.active) : noiseSelect s = s := by
  simp [noiseSelect, h]

/-- A noise voice switch (45_noise_select.md R231). -/
theorem noiseSelect_switch {s : State} (h : ev1Nsel (s.ev1Byte .noise) ≠ s.blk.nsel.active) :
    noiseSelect s =
      (s.setNoiseActive (ev1Nsel (s.ev1Byte .noise))).emits
        (.stop (.N s.blk.nsel.active) :: if s.blk.nsel.playing then
          [.setPos (.N (ev1Nsel (s.ev1Byte .noise))) 0, .start (.N (ev1Nsel (s.ev1Byte .noise)))] else []) := by
  unfold noiseSelect; simp only [h, if_false, emit_eq_emits]
  cases hp : s.blk.nsel.playing <;> simp [hp]

/-- The frequency code of one channel and one command (46_frequency.md R245). -/
theorem freq_eq (x : Chan) (s : State) :
    freq x s = (s.setChan x { s.chan x with frequencyReg := freqCode (s.fqhByte x) (s.fqlByte x) }).emits
      [.setFreq (s.voice x) (rate x (freqCode (s.fqhByte x) (s.fqlByte x)))] := rfl

/-- Six commands and nothing else (47_global.md R260). -/
theorem stopAll_eq (s : State) :
    stopAll s = s.emits [.stop (.V .ch1), .stop (.V .ch2), .stop (.V .ch3), .stop (.V .ch4), .stop (.V .ch5),
      .stop (.N s.blk.nsel.active)] := by
  simp [stopAll, emit_eq_emits]

end Sys2Proof.Machine
end

