-- ==== Sys2Proof/Laws/PerInstr.lean ====
section
/-! SUPPORT. Per-instruction families: one statement over instructions as syntax and one lemma per constructor. -/

/- One theorem at a time: each one elaborated on its own thread takes that thread's stack. -/
set_option Elab.async false

namespace Sys2Proof

theorem config_wf_fits {cfg : Config} (h : cfg.wf = true) : cfg.fits = true := by
  simp only [Config.wf, Bool.and_eq_true] at h; exact h.2

/-- A register's address lies in the address space. -/
theorem reg_lt {cfg : Config} (h : cfg.wf = true) {a : Nat} (ha : a ∈ cfg.map.regAddrs) : a < 2 ^ cfg.addrW := by
  have := config_wf_fits h
  simp only [Config.fits, Bool.and_eq_true, List.all_eq_true, decide_eq_true_eq] at this
  exact this.1.1 a ha

/-- A region's addresses lie in the address space. -/
theorem region_lt {cfg : Config} (h : cfg.wf = true) {r : Nat × Nat} (hr : r ∈ cfg.map.regions) {off : Nat}
    (ho : off < r.2) : r.1 + off < 2 ^ cfg.addrW := by
  have := config_wf_fits h
  simp only [Config.fits, Bool.and_eq_true, List.all_eq_true, decide_eq_true_eq] at this
  have := this.1.2 r hr
  omega

theorem wave_mem_regions (m : AddrMap) (k : Slot) : (m.aWave k, waveBytes) ∈ m.regions := by
  simp only [AddrMap.regions, List.mem_append, List.mem_map]
  exact .inl ⟨k, by fin_cases k <;> decide, rfl⟩

theorem mod_mem_regions (m : AddrMap) : (m.modFirst, m.modBytes) ∈ m.regions := by simp [AddrMap.regions]

end Sys2Proof

namespace Sys2Proof.Laws

/-- A well-formed instruction stands for an address of ADDR_W bits (30_encoding.md R90). -/
def EncodeFits.Statement (i : Instr) : Prop :=
  ∀ cfg : Config, cfg.wf = true → i.wf cfg = true → encode cfg i < 2 ^ cfg.addrW

theorem EncodeFits.wave0 (off : Nat) : EncodeFits.Statement (.wave0 off) := fun cfg h hw =>
  region_lt h (wave_mem_regions cfg.map 0) (of_decide_eq_true hw)
theorem EncodeFits.wave1 (off : Nat) : EncodeFits.Statement (.wave1 off) := fun cfg h hw =>
  region_lt h (wave_mem_regions cfg.map 1) (of_decide_eq_true hw)
theorem EncodeFits.wave2 (off : Nat) : EncodeFits.Statement (.wave2 off) := fun cfg h hw =>
  region_lt h (wave_mem_regions cfg.map 2) (of_decide_eq_true hw)
theorem EncodeFits.wave3 (off : Nat) : EncodeFits.Statement (.wave3 off) := fun cfg h hw =>
  region_lt h (wave_mem_regions cfg.map 3) (of_decide_eq_true hw)
theorem EncodeFits.wave4 (off : Nat) : EncodeFits.Statement (.wave4 off) := fun cfg h hw =>
  region_lt h (wave_mem_regions cfg.map 4) (of_decide_eq_true hw)
theorem EncodeFits.moddata (off : Nat) : EncodeFits.Statement (.moddata off) := fun cfg h hw =>
  region_lt h (mod_mem_regions cfg.map) (of_decide_eq_true hw)
theorem EncodeFits.s1int : EncodeFits.Statement .s1int := fun cfg h _ =>
  reg_lt h (List.mem_map.mpr ⟨(encode cfg .s1int, .s1int), by simp [regRows, intRows, encode, AddrMap.aInt, Chan.ix], rfl⟩)
theorem EncodeFits.s2int : EncodeFits.Statement .s2int := fun cfg h _ =>
  reg_lt h (List.mem_map.mpr ⟨(encode cfg .s2int, .s2int), by simp [regRows, intRows, encode, AddrMap.aInt, Chan.ix], rfl⟩)
theorem EncodeFits.s3int : EncodeFits.Statement .s3int := fun cfg h _ =>
  reg_lt h (List.mem_map.mpr ⟨(encode cfg .s3int, .s3int), by simp [regRows, intRows, encode, AddrMap.aInt, Chan.ix], rfl⟩)
theorem EncodeFits.s4int : EncodeFits.Statement .s4int := fun cfg h _ =>
  reg_lt h (List.mem_map.mpr ⟨(encode cfg .s4int, .s4int), by simp [regRows, intRows, encode, AddrMap.aInt, Chan.ix], rfl⟩)
theorem EncodeFits.s5int : EncodeFits.Statement .s5int := fun cfg h _ =>
  reg_lt h (List.mem_map.mpr ⟨(encode cfg .s5int, .s5int), by simp [regRows, intRows, encode, AddrMap.aInt, Chan.ix], rfl⟩)
theorem EncodeFits.s6int : EncodeFits.Statement .s6int := fun cfg h _ =>
  reg_lt h (List.mem_map.mpr ⟨(encode cfg .s6int, .s6int), by simp [regRows, intRows, encode, AddrMap.aInt, Chan.ix], rfl⟩)
theorem EncodeFits.s1lrv : EncodeFits.Statement .s1lrv := fun cfg h _ =>
  reg_lt h (List.mem_map.mpr ⟨(encode cfg .s1lrv, .s1lrv), by simp [regRows, lrvRows, encode, AddrMap.aLrv, Chan.ix], rfl⟩)
theorem EncodeFits.s2lrv : EncodeFits.Statement .s2lrv := fun cfg h _ =>
  reg_lt h (List.mem_map.mpr ⟨(encode cfg .s2lrv, .s2lrv), by simp [regRows, lrvRows, encode, AddrMap.aLrv, Chan.ix], rfl⟩)
theorem EncodeFits.s3lrv : EncodeFits.Statement .s3lrv := fun cfg h _ =>
  reg_lt h (List.mem_map.mpr ⟨(encode cfg .s3lrv, .s3lrv), by simp [regRows, lrvRows, encode, AddrMap.aLrv, Chan.ix], rfl⟩)
theorem EncodeFits.s4lrv : EncodeFits.Statement .s4lrv := fun cfg h _ =>
  reg_lt h (List.mem_map.mpr ⟨(encode cfg .s4lrv, .s4lrv), by simp [regRows, lrvRows, encode, AddrMap.aLrv, Chan.ix], rfl⟩)
theorem EncodeFits.s5lrv : EncodeFits.Statement .s5lrv := fun cfg h _ =>
  reg_lt h (List.mem_map.mpr ⟨(encode cfg .s5lrv, .s5lrv), by simp [regRows, lrvRows, encode, AddrMap.aLrv, Chan.ix], rfl⟩)
theorem EncodeFits.s6lrv : EncodeFits.Statement .s6lrv := fun cfg h _ =>
  reg_lt h (List.mem_map.mpr ⟨(encode cfg .s6lrv, .s6lrv), by simp [regRows, lrvRows, encode, AddrMap.aLrv, Chan.ix], rfl⟩)
theorem EncodeFits.s1fql : EncodeFits.Statement .s1fql := fun cfg h _ =>
  reg_lt h (List.mem_map.mpr ⟨(encode cfg .s1fql, .s1fql), by simp [regRows, fqlRows, encode, AddrMap.aFql, Chan.ix], rfl⟩)
theorem EncodeFits.s2fql : EncodeFits.Statement .s2fql := fun cfg h _ =>
  reg_lt h (List.mem_map.mpr ⟨(encode cfg .s2fql, .s2fql), by simp [regRows, fqlRows, encode, AddrMap.aFql, Chan.ix], rfl⟩)
theorem EncodeFits.s3fql : EncodeFits.Statement .s3fql := fun cfg h _ =>
  reg_lt h (List.mem_map.mpr ⟨(encode cfg .s3fql, .s3fql), by simp [regRows, fqlRows, encode, AddrMap.aFql, Chan.ix], rfl⟩)
theorem EncodeFits.s4fql : EncodeFits.Statement .s4fql := fun cfg h _ =>
  reg_lt h (List.mem_map.mpr ⟨(encode cfg .s4fql, .s4fql), by simp [regRows, fqlRows, encode, AddrMap.aFql, Chan.ix], rfl⟩)
theorem EncodeFits.s5fql : EncodeFits.Statement .s5fql := fun cfg h _ =>
  reg_lt h (List.mem_map.mpr ⟨(encode cfg .s5fql, .s5fql), by simp [regRows, fqlRows, encode, AddrMap.aFql, Chan.ix], rfl⟩)
theorem EncodeFits.s6fql : EncodeFits.Statement .s6fql := fun cfg h _ =>
  reg_lt h (List.mem_map.mpr ⟨(encode cfg .s6fql, .s6fql), by simp [regRows, fqlRows, encode, AddrMap.aFql, Chan.ix], rfl⟩)
theorem EncodeFits.s1fqh : EncodeFits.Statement .s1fqh := fun cfg h _ =>
  reg_lt h (List.mem_map.mpr ⟨(encode cfg .s1fqh, .s1fqh), by simp [regRows, fqhRows, encode, AddrMap.aFqh, Chan.ix], rfl⟩)
theorem EncodeFits.s2fqh : EncodeFits.Statement .s2fqh := fun cfg h _ =>
  reg_lt h (List.mem_map.mpr ⟨(encode cfg .s2fqh, .s2fqh), by simp [regRows, fqhRows, encode, AddrMap.aFqh, Chan.ix], rfl⟩)
theorem EncodeFits.s3fqh : EncodeFits.Statement .s3fqh := fun cfg h _ =>
  reg_lt h (List.mem_map.mpr ⟨(encode cfg .s3fqh, .s3fqh), by simp [regRows, fqhRows, encode, AddrMap.aFqh, Chan.ix], rfl⟩)
theorem EncodeFits.s4fqh : EncodeFits.Statement .s4fqh := fun cfg h _ =>
  reg_lt h (List.mem_map.mpr ⟨(encode cfg .s4fqh, .s4fqh), by simp [regRows, fqhRows, encode, AddrMap.aFqh, Chan.ix], rfl⟩)
theorem EncodeFits.s5fqh : EncodeFits.Statement .s5fqh := fun cfg h _ =>
  reg_lt h (List.mem_map.mpr ⟨(encode cfg .s5fqh, .s5fqh), by simp [regRows, fqhRows, encode, AddrMap.aFqh, Chan.ix], rfl⟩)
theorem EncodeFits.s6fqh : EncodeFits.Statement .s6fqh := fun cfg h _ =>
  reg_lt h (List.mem_map.mpr ⟨(encode cfg .s6fqh, .s6fqh), by simp [regRows, fqhRows, encode, AddrMap.aFqh, Chan.ix], rfl⟩)
theorem EncodeFits.s1ev0 : EncodeFits.Statement .s1ev0 := fun cfg h _ =>
  reg_lt h (List.mem_map.mpr ⟨(encode cfg .s1ev0, .s1ev0), by simp [regRows, ev0Rows, encode, AddrMap.aEv0, Chan.ix], rfl⟩)
theorem EncodeFits.s2ev0 : EncodeFits.Statement .s2ev0 := fun cfg h _ =>
  reg_lt h (List.mem_map.mpr ⟨(encode cfg .s2ev0, .s2ev0), by simp [regRows, ev0Rows, encode, AddrMap.aEv0, Chan.ix], rfl⟩)
theorem EncodeFits.s3ev0 : EncodeFits.Statement .s3ev0 := fun cfg h _ =>
  reg_lt h (List.mem_map.mpr ⟨(encode cfg .s3ev0, .s3ev0), by simp [regRows, ev0Rows, encode, AddrMap.aEv0, Chan.ix], rfl⟩)
theorem EncodeFits.s4ev0 : EncodeFits.Statement .s4ev0 := fun cfg h _ =>
  reg_lt h (List.mem_map.mpr ⟨(encode cfg .s4ev0, .s4ev0), by simp [regRows, ev0Rows, encode, AddrMap.aEv0, Chan.ix], rfl⟩)
theorem EncodeFits.s5ev0 : EncodeFits.Statement .s5ev0 := fun cfg h _ =>
  reg_lt h (List.mem_map.mpr ⟨(encode cfg .s5ev0, .s5ev0), by simp [regRows, ev0Rows, encode, AddrMap.aEv0, Chan.ix], rfl⟩)
theorem EncodeFits.s6ev0 : EncodeFits.Statement .s6ev0 := fun cfg h _ =>
  reg_lt h (List.mem_map.mpr ⟨(encode cfg .s6ev0, .s6ev0), by simp [regRows, ev0Rows, encode, AddrMap.aEv0, Chan.ix], rfl⟩)
theorem EncodeFits.s1ev1 : EncodeFits.Statement .s1ev1 := fun cfg h _ =>
  reg_lt h (List.mem_map.mpr ⟨(encode cfg .s1ev1, .s1ev1), by simp [regRows, ev1Rows, encode, AddrMap.aEv1, Chan.ix], rfl⟩)
theorem EncodeFits.s2ev1 : EncodeFits.Statement .s2ev1 := fun cfg h _ =>
  reg_lt h (List.mem_map.mpr ⟨(encode cfg .s2ev1, .s2ev1), by simp [regRows, ev1Rows, encode, AddrMap.aEv1, Chan.ix], rfl⟩)
theorem EncodeFits.s3ev1 : EncodeFits.Statement .s3ev1 := fun cfg h _ =>
  reg_lt h (List.mem_map.mpr ⟨(encode cfg .s3ev1, .s3ev1), by simp [regRows, ev1Rows, encode, AddrMap.aEv1, Chan.ix], rfl⟩)
theorem EncodeFits.s4ev1 : EncodeFits.Statement .s4ev1 := fun cfg h _ =>
  reg_lt h (List.mem_map.mpr ⟨(encode cfg .s4ev1, .s4ev1), by simp [regRows, ev1Rows, encode, AddrMap.aEv1, Chan.ix], rfl⟩)
theorem EncodeFits.s5ev1 : EncodeFits.Statement .s5ev1 := fun cfg h _ =>
  reg_lt h (List.mem_map.mpr ⟨(encode cfg .s5ev1, .s5ev1), by simp [regRows, ev1Rows, encode, AddrMap.aEv1, Chan.ix], rfl⟩)
theorem EncodeFits.s6ev1 : EncodeFits.Statement .s6ev1 := fun cfg h _ =>
  reg_lt h (List.mem_map.mpr ⟨(encode cfg .s6ev1, .s6ev1), by simp [regRows, ev1Rows, encode, AddrMap.aEv1, Chan.ix], rfl⟩)
theorem EncodeFits.s1ram : EncodeFits.Statement .s1ram := fun cfg h _ =>
  reg_lt h (List.mem_map.mpr ⟨(encode cfg .s1ram, .s1ram), by simp [regRows, otherRows, encode, AddrMap.aRam, Mel.ix], rfl⟩)
theorem EncodeFits.s2ram : EncodeFits.Statement .s2ram := fun cfg h _ =>
  reg_lt h (List.mem_map.mpr ⟨(encode cfg .s2ram, .s2ram), by simp [regRows, otherRows, encode, AddrMap.aRam, Mel.ix], rfl⟩)
theorem EncodeFits.s3ram : EncodeFits.Statement .s3ram := fun cfg h _ =>
  reg_lt h (List.mem_map.mpr ⟨(encode cfg .s3ram, .s3ram), by simp [regRows, otherRows, encode, AddrMap.aRam, Mel.ix], rfl⟩)
theorem EncodeFits.s4ram : EncodeFits.Statement .s4ram := fun cfg h _ =>
  reg_lt h (List.mem_map.mpr ⟨(encode cfg .s4ram, .s4ram), by simp [regRows, otherRows, encode, AddrMap.aRam, Mel.ix], rfl⟩)
theorem EncodeFits.s5ram : EncodeFits.Statement .s5ram := fun cfg h _ =>
  reg_lt h (List.mem_map.mpr ⟨(encode cfg .s5ram, .s5ram), by simp [regRows, otherRows, encode, AddrMap.aRam, Mel.ix], rfl⟩)
theorem EncodeFits.s5swp : EncodeFits.Statement .s5swp := fun cfg h _ =>
  reg_lt h (List.mem_map.mpr ⟨(encode cfg .s5swp, .s5swp), by simp [regRows, otherRows, encode], rfl⟩)
theorem EncodeFits.sstop : EncodeFits.Statement .sstop := fun cfg h _ =>
  reg_lt h (List.mem_map.mpr ⟨(encode cfg .sstop, .sstop), by simp [regRows, otherRows, encode], rfl⟩)
theorem EncodeFits.undef (a : Nat) : EncodeFits.Statement (.undef a) := fun cfg _ hw => by
  simp only [Instr.wf, Bool.and_eq_true, decide_eq_true_eq] at hw; exact hw.1

end Sys2Proof.Laws
end

