-- ==== Sys2Proof/Laws/Step.lean ====
section
/-! SUPPORT. What a step can do, said once: inversion of acceptance, of a host action and of the step. -/

/- One theorem at a time: each one elaborated on its own thread takes that thread's stack. -/
set_option Elab.async false

namespace Sys2Proof.Machine

/-- A notification ends in one of these ways. -/
theorem accept_cases (a : Nat) (s : State) :
    (s.env.alive = false ∧ accept a s = .refused .afterShutdown) ∨
    (s.env.alive = true ∧ s.gateOpen = false ∧ accept a s = .quiet s) ∨
    (s.env.alive = true ∧ s.gateOpen = true ∧ ∃ i, decode s.env.cfg a = .ok i ∧ accept a s = .run i s.sampleFeedback) ∨
    (s.env.alive = true ∧ s.gateOpen = true ∧ decode s.env.cfg a = .error .addressTooWide ∧
      accept a s = .refused .addressTooWide) := by
  unfold accept
  cases ha : s.env.alive with
  | false => exact .inl ⟨rfl, rfl⟩
  | true =>
    cases hg : s.gateOpen with
    | false => exact .inr (.inl ⟨rfl, rfl, rfl⟩)
    | true =>
      cases hd : decode s.env.cfg a with
      | ok i => exact .inr (.inr (.inl ⟨rfl, rfl, i, rfl, rfl⟩))
      | error e => cases e; exact .inr (.inr (.inr ⟨rfl, rfl, rfl, rfl⟩))

/-- An accepted notification. -/
theorem accept_open {a : Nat} {s : State} {i : Instr} (ha : s.env.alive = true) (hg : s.gateOpen = true)
    (hd : decode s.env.cfg a = .ok i) : accept a s = .run i s.sampleFeedback := by
  simp [accept, ha, hg, hd]

/-- A notification behind a closed gate. -/
theorem accept_gated {a : Nat} {s : State} (ha : s.env.alive = true) (hg : s.gateOpen = false) :
    accept a s = .quiet s := by
  simp [accept, ha, hg]

/-- A step that answers a next state either ran an instruction or did not. -/
theorem step_cases {s t : State} (h : step s = .next t) :
    fetch s = .quiet t ∨ ∃ i u, fetch s = .run i u ∧ exec i u = .next t := by
  unfold step at h
  cases hf : fetch s with
  | quiet u => rw [hf] at h; cases h; exact .inl rfl
  | run i u => rw [hf] at h; exact .inr ⟨i, u, rfl, h⟩
  | fault f => rw [hf] at h; cases h
  | refused r => rw [hf] at h; cases h

theorem step_of_run {s u : State} {i : Instr} (h : fetch s = .run i u) : step s = exec i u := by
  simp [step, h]

theorem step_of_quiet {s u : State} (h : fetch s = .quiet u) : step s = .next u := by
  simp [step, h]

/-- An instruction that a step runs was notified, alone or with a CPU write of the notified byte. -/
theorem fetch_run {s u : State} {i : Instr} (h : fetch s = .run i u) :
    ∃ a rest v, (s.env.inbox = .notify a :: rest ∧ v = s.setInbox rest ∨
        ∃ b, s.env.inbox = .st a b :: rest ∧ a < 2 ^ s.env.cfg.addrW ∧ v = (s.setInbox rest).memWrite a b) ∧
      v.env.alive = true ∧ v.gateOpen = true ∧ decode s.env.cfg a = .ok i ∧ u = v.sampleFeedback := by
  unfold fetch at h
  cases hi : s.env.inbox with
  | nil => rw [hi] at h; cases h
  | cons act rest =>
    simp only [hi] at h
    have key : ∀ a v, accept a v = .run i u →
        v.env.alive = true ∧ v.gateOpen = true ∧ decode v.env.cfg a = .ok i ∧ u = v.sampleFeedback := by
      intro a v hv
      rcases accept_cases a v with ⟨_, e⟩ | ⟨_, _, e⟩ | ⟨h1, h2, j, h3, e⟩ | ⟨_, _, _, e⟩ <;> rw [e] at hv <;> cases hv
      exact ⟨h1, h2, h3, rfl⟩
    cases act with
    | st a b =>
      simp only [hostAction] at h
      split at h
      · next hlt => exact ⟨a, rest, _, .inr ⟨b, rfl, hlt, rfl⟩, key a _ h⟩
      · cases h
    | notify a => exact ⟨a, rest, _, .inl ⟨rfl, rfl⟩, key a _ h⟩
    | poke a b => simp only [hostAction] at h; split at h <;> cases h
    | store a bs => simp only [hostAction] at h; split at h <;> cases h
    | fb f => cases h
    | sndEn on => cases h
    | shutdown => simp only [hostAction] at h; split at h <;> cases h
    | init ok => simp only [hostAction] at h; split at h <;> cases h

/-- A step that runs no instruction emits nothing, keeps the configuration, and keeps the block unless it is an
initialisation. -/
theorem fetch_quiet {s t : State} (h : fetch s = .quiet t) :
    t.out = s.out ∧ t.env.cfg = s.env.cfg ∧ (t.blk = s.blk ∨
      ∃ ok rest, s.env.inbox = .init ok :: rest ∧ s.env.alive = false ∧ t.blk = Block.reset ok) := by
  unfold fetch at h
  cases hi : s.env.inbox with
  | nil => rw [hi] at h; cases h; exact ⟨rfl, rfl, .inl rfl⟩
  | cons act rest =>
    simp only [hi] at h
    have key : ∀ a v, accept a v = .quiet t → t = v := by
      intro a v hv
      rcases accept_cases a v with ⟨_, e⟩ | ⟨_, _, e⟩ | ⟨_, _, i, _, e⟩ | ⟨_, _, _, e⟩ <;> rw [e] at hv <;> cases hv
      rfl
    cases act with
    | st a b =>
      simp only [hostAction] at h
      split at h
      · rw [key _ _ h]; exact ⟨rfl, rfl, .inl rfl⟩
      · cases h
    | notify a => rw [key _ _ h]; exact ⟨rfl, rfl, .inl rfl⟩
    | poke a b => simp only [hostAction] at h; split at h <;> cases h; exact ⟨rfl, rfl, .inl rfl⟩
    | store a bs => simp only [hostAction] at h; split at h <;> cases h; exact ⟨rfl, rfl, .inl rfl⟩
    | fb f => cases h; exact ⟨rfl, rfl, .inl rfl⟩
    | sndEn on => cases h; exact ⟨rfl, rfl, .inl rfl⟩
    | shutdown => simp only [hostAction] at h; split at h <;> cases h; exact ⟨rfl, rfl, .inl rfl⟩
    | init ok =>
      simp only [hostAction] at h; split at h
      · cases h
      · next hal => cases h; exact ⟨rfl, rfl, .inr ⟨ok, rest, rfl, Bool.eq_false_iff.mpr hal, rfl⟩⟩

end Sys2Proof.Machine
end

