-- ==== Sys2Proof/Tests/Slice0.lean ====
section
/-! SUPPORT. Tests: the well-formedness checks refuse ill-formed terms; every constructor's decoding from the table of
30_encoding.md R92; single steps with the expected results of 95_test_vectors.md; and, for each obligation with
hypotheses, a witness that meets them. -/

namespace Sys2Proof.Tests

open Sys2Proof.Machine

/- One theorem at a time: the tests are many, and each one elaborated on its own thread takes that thread's stack. -/
set_option Elab.async false

/-! ## Well-formedness smoke: a term each check refuses -/

/-- The default configuration with another map. -/
def withMap (m : AddrMap) : Config := { Config.default with map := m }

theorem test_default_config_wf : Config.default.wf = true := by decide

theorem test_wf_refuses_equal_registers :
    { AddrMap.default with swp := 0x01000580 }.registersDistinct = false ∧
      (withMap { AddrMap.default with swp := 0x01000580 }).wf = false := by decide

theorem test_wf_refuses_overlapping_regions :
    { AddrMap.default with modFirst := 0x0100027F }.regionsDisjoint = false ∧
      (withMap { AddrMap.default with modFirst := 0x0100027F }).wf = false := by decide

theorem test_wf_refuses_register_in_region :
    { AddrMap.default with sstop := 0x0100007F }.registersOutsideRegions = false ∧
      (withMap { AddrMap.default with sstop := 0x0100007F }).wf = false := by decide

theorem test_wf_refuses_register_outside_address_space :
    (withMap { AddrMap.default with sstop := 2 ^ 32 }).fits = false ∧
      (withMap { AddrMap.default with sstop := 2 ^ 32 }).wf = false := by decide

theorem test_wf_refuses_region_outside_address_space :
    (withMap { AddrMap.default with modFirst := 2 ^ 32 - 0x7F }).wf = false ∧
      (withMap { AddrMap.default with modFirst := 2 ^ 32 - 0x80 }).wf = true := by decide

theorem test_wf_refuses_sample_outside_address_space :
    { Config.default with waveStride := 0x09000000 }.wf = false := by decide

theorem test_wf_refuses_wave_offset :
    (Instr.wave0 0x80).wf Config.default = false ∧ (Instr.wave1 0x80).wf Config.default = false ∧
      (Instr.wave2 0x80).wf Config.default = false ∧ (Instr.wave3 0x80).wf Config.default = false ∧
      (Instr.wave4 0x80).wf Config.default = false ∧ (Instr.wave4 0x7F).wf Config.default = true := by decide

theorem test_wf_refuses_moddata_offset :
    (Instr.moddata 0x80).wf Config.default = false ∧ (Instr.moddata 0x7F).wf Config.default = true := by decide

theorem test_wf_refuses_undef_at_a_register :
    (Instr.undef 0x01000400).wf Config.default = false ∧ (Instr.undef 0x01000280).wf Config.default = false ∧
      (Instr.undef 0x01000401).wf Config.default = true := by decide

theorem test_wf_refuses_undef_too_wide :
    (Instr.undef (2 ^ 32)).wf Config.default = false ∧ (Instr.undef (2 ^ 32 - 1)).wf Config.default = true := by decide

/-! ## Decoding, from the words of 30_encoding.md R92 and 95_test_vectors.md 2.1 -/


theorem test_decode_waves :
    decodeTableWord 32 0x01000000 = some (.wave0 0) ∧ decodeTableWord 32 0x01000001 = some (.wave0 1) ∧
      decodeTableWord 32 0x0100007F = some (.wave0 0x7F) ∧ decodeTableWord 32 0x01000080 = some (.wave1 0) ∧
      decodeTableWord 32 0x01000100 = some (.wave2 0) ∧ decodeTableWord 32 0x01000180 = some (.wave3 0) ∧
      decodeTableWord 32 0x010001FC = some (.wave3 0x7C) ∧ decodeTableWord 32 0x01000200 = some (.wave4 0) ∧
      decodeTableWord 32 0x0100027F = some (.wave4 0x7F) := by decide

theorem test_decode_moddata :
    decodeTableWord 32 0x01000280 = some (.moddata 0) ∧ decodeTableWord 32 0x010002FF = some (.moddata 0x7F) := by decide

theorem test_decode_int :
    decodeTableWord 32 0x01000400 = some .s1int ∧ decodeTableWord 32 0x01000440 = some .s2int ∧
      decodeTableWord 32 0x01000480 = some .s3int ∧ decodeTableWord 32 0x010004C0 = some .s4int ∧
      decodeTableWord 32 0x01000500 = some .s5int ∧ decodeTableWord 32 0x01000540 = some .s6int := by decide

theorem test_decode_lrv :
    decodeTableWord 32 0x01000404 = some .s1lrv ∧ decodeTableWord 32 0x01000444 = some .s2lrv ∧
      decodeTableWord 32 0x01000484 = some .s3lrv ∧ decodeTableWord 32 0x010004C4 = some .s4lrv ∧
      decodeTableWord 32 0x01000504 = some .s5lrv ∧ decodeTableWord 32 0x01000544 = some .s6lrv := by decide

theorem test_decode_fql :
    decodeTableWord 32 0x01000408 = some .s1fql ∧ decodeTableWord 32 0x01000448 = some .s2fql ∧
      decodeTableWord 32 0x01000488 = some .s3fql ∧ decodeTableWord 32 0x010004C8 = some .s4fql ∧
      decodeTableWord 32 0x01000508 = some .s5fql ∧ decodeTableWord 32 0x01000548 = some .s6fql := by decide

theorem test_decode_fqh :
    decodeTableWord 32 0x0100040C = some .s1fqh ∧ decodeTableWord 32 0x0100044C = some .s2fqh ∧
      decodeTableWord 32 0x0100048C = some .s3fqh ∧ decodeTableWord 32 0x010004CC = some .s4fqh ∧
      decodeTableWord 32 0x0100050C = some .s5fqh ∧ decodeTableWord 32 0x0100054C = some .s6fqh := by decide

theorem test_decode_ev0 :
    decodeTableWord 32 0x01000410 = some .s1ev0 ∧ decodeTableWord 32 0x01000450 = some .s2ev0 ∧
      decodeTableWord 32 0x01000490 = some .s3ev0 ∧ decodeTableWord 32 0x010004D0 = some .s4ev0 ∧
      decodeTableWord 32 0x01000510 = some .s5ev0 ∧ decodeTableWord 32 0x01000550 = some .s6ev0 := by decide

theorem test_decode_ev1 :
    decodeTableWord 32 0x01000414 = some .s1ev1 ∧ decodeTableWord 32 0x01000454 = some .s2ev1 ∧
      decodeTableWord 32 0x01000494 = some .s3ev1 ∧ decodeTableWord 32 0x010004D4 = some .s4ev1 ∧
      decodeTableWord 32 0x01000514 = some .s5ev1 ∧ decodeTableWord 32 0x01000554 = some .s6ev1 := by decide

theorem test_decode_ram_swp_sstop :
    decodeTableWord 32 0x01000418 = some .s1ram ∧ decodeTableWord 32 0x01000458 = some .s2ram ∧
      decodeTableWord 32 0x01000498 = some .s3ram ∧ decodeTableWord 32 0x010004D8 = some .s4ram ∧
      decodeTableWord 32 0x01000518 = some .s5ram ∧ decodeTableWord 32 0x0100051C = some .s5swp ∧
      decodeTableWord 32 0x01000580 = some .sstop := by decide

/-- Rows of 95_test_vectors.md 2.1 that are `UNDEF`: below the range, gaps, the byte after a register, S1SWP, CH6's missing
pointer, the top of the range, a mirror. -/
theorem test_decode_undef :
    ∀ a ∈ [0x00FFFFFF, 0x01000300, 0x010003FF, 0x01000401, 0x0100041C, 0x01000558, 0x010007FF, 0x05000400, 0xFFFFFFFF],
      decodeTableWord 32 a = some (.undef a) := by decide

theorem test_decode_refuses_wide_number :
    decode Config.default (2 ^ 32 + 0x01000400) = .error .addressTooWide := by decide

theorem test_encode_inverts :
    ∀ i ∈ [Instr.wave3 0x7C, .moddata 5, .s6int, .s5ev1, .s4ram, .s5swp, .sstop, .undef 0x01000401],
      decode Config.default (encode Config.default i) = .ok i := by decide

theorem test_withFetchWord_runs_the_word :
    (match step (State.reset.withFetchWord 32 0x01000580) with | .next t => t.out.length | _ => 0) = 6 := by decide

/-! ## Single steps; the expected results are the vectors of 95_test_vectors.md, Part 2 -/

/-- The reset state over the given memory bytes. -/
def tBase (bytes : List (Nat × Byte)) : State :=
  { State.reset with env := { State.reset.env with bus := bytes.foldl (fun m p => m.write p.1 p.2) [] } }

/-- A scripted feedback sample, the frequency as a fraction. -/
def tFb (v : Fin 256) (n d : Nat) : Feedback := ⟨v, (n : Rat) / (d : Rat), by positivity⟩

/-- The step `ST a, v` with scripted feedback. -/
def tStep (s : State) (f : Feedback) (a : Nat) (v : Byte) : Option State :=
  match step { s with env := { s.env with inbox := [.st a v], backend := some f } } with
  | .next t => some t
  | _ => none

/-- The commands of that step. -/
def tOut (s : State) (f : Feedback) (a : Nat) (v : Byte) : Option (List Cmd) := (tStep s f a v).map State.out

/-- The dirty flags after that step. -/
def tDirty (s : State) (a : Nat) (v : Byte) : Option (List Bool) :=
  (tStep s (tFb 0 0 1) a v).map fun t => t.blk.dirty.toList

/-- No feedback of interest. -/
def fb0 : Feedback := tFb 0 0 1

/-- A slot's memory from its samples. -/
def tSlot (k : Nat) (raw : Nat → Byte) : List (Nat × Byte) :=
  (List.range 32).map fun i => (0x01000000 + 0x80 * k + 4 * i, raw i)

/-- Every slot clean. -/
def tClean (s : State) : State := { s with blk := { s.blk with dirty := Vector.replicate 5 false } }

/-- V-WV-2. -/
theorem test_wave0 :
    tDirty (tClean (tBase [])) 0x0100007F 0xAA = some [true, false, false, false, false] := by decide +kernel

/-- V-WV-3. -/
theorem test_wave1 :
    tDirty (tClean (tBase [])) 0x01000084 0x3F = some [false, true, false, false, false] := by decide +kernel

/-- V-WV-5: the same byte again. -/
theorem test_wave2 :
    tDirty (tClean (tBase [(0x01000114, 0x11)])) 0x01000114 0x11 = some [false, false, true, false, false] := by decide +kernel

/-- V-WV-7: a notification without a write. -/
theorem test_wave3 :
    (match step ((tClean (tBase [])).setInbox [.notify 0x01000180]) with
      | .next t => t.blk.dirty.toList | _ => []) = [false, false, false, true, false] := by decide +kernel

/-- V-WV-4. -/
theorem test_wave4 :
    tDirty (tClean (tBase [])) 0x0100027C 0x00 = some [false, false, false, false, true] := by decide +kernel

/-- V-MD-1. -/
theorem test_moddata :
    tDirty (tClean (tBase [])) 0x01000280 0x12 = some [true, true, true, true, true] := by decide +kernel

/-- V-RAM-2: a clean slot is uploaded all the same. -/
theorem test_s1ram :
    tOut (tClean (tBase (tSlot 1 fun i => BitVec.ofNat 8 i))) fb0 0x01000418 0x01 =
      some [.upload (.V .ch1) #v[0x80, 0x84, 0x88, 0x8C, 0x90, 0x94, 0x98, 0x9C, 0xA0, 0xA4, 0xA8, 0xAC, 0xB0, 0xB4,
        0xB8, 0xBC, 0xC0, 0xC4, 0xC8, 0xCC, 0xD0, 0xD4, 0xD8, 0xDC, 0xE0, 0xE4, 0xE8, 0xEC, 0xF0, 0xF4, 0xF8, 0xFC]] := by decide +kernel

/-- V-RAM-4. -/
theorem test_s1ram_out_of_range :
    (tStep ((tBase []).setWaveIndex .ch1 2) fb0 0x01000418 0x07).map (fun t => (t.waveIndex .ch1, t.out, t.blk.dirty.toList)) =
      some (2, [], [true, true, true, true, true]) := by decide +kernel

/-- V-RAM-1. -/
theorem test_s2ram :
    (tStep (tBase (tSlot 3 fun _ => 0x20)) fb0 0x01000458 0x03).map (fun t => (t.waveIndex .ch2, t.out, t.blk.dirty.toList)) =
      some (3, [.upload (.V .ch2) (Vector.replicate 32 0x00)], [true, true, true, false, true]) := by decide +kernel

/-- V-RAM-6: the high nibble is ignored. -/
theorem test_s3ram :
    (tStep (tBase []) fb0 0x01000498 0xF4).map (fun t => (t.waveIndex .ch3, t.out, t.blk.dirty.toList)) =
      some (4, [.upload (.V .ch3) (Vector.replicate 32 0x80)], [true, true, true, true, false]) := by decide +kernel

/-- V-RAM-3. -/
theorem test_s4ram :
    (tStep ((tBase []).setEnabled (.mel .ch4) true) fb0 0x010004D8 0x02).map (fun t => (t.waveIndex .ch4, t.out)) = some (2, []) := by decide +kernel

/-- V-RAM-5. -/
theorem test_s5ram :
    (tStep (tBase []) fb0 0x01000518 0x05).map (fun t => (t.waveIndex .ch5, t.out)) = some (0, []) := by decide +kernel

/-- V-INT-1. -/
theorem test_s1int :
    (tStep (tBase (tSlot 0 fun i => BitVec.ofNat 8 (2 * i))) fb0 0x01000400 0x80).map
      (fun t => ((t.chan (.mel .ch1)).enabled, t.blk.dirty.toList, t.out)) =
      some (true, [false, true, true, true, true],
        [.upload (.V .ch1) #v[0x80, 0x88, 0x90, 0x98, 0xA0, 0xA8, 0xB0, 0xB8, 0xC0, 0xC8, 0xD0, 0xD8, 0xE0, 0xE8, 0xF0, 0xF8,
          0x00, 0x08, 0x10, 0x18, 0x20, 0x28, 0x30, 0x38, 0x40, 0x48, 0x50, 0x58, 0x60, 0x68, 0x70, 0x78],
         .setPos (.V .ch1) 0, .start (.V .ch1)]) := by decide +kernel

/-- V-INT-3. -/
theorem test_s1int_interval :
    (tStep (tClean (tBase [])) (tFb 0 625000 131) 0x01000400 0xA0).map
      (fun t => ((t.chan (.mel .ch1)).sweep.intervalTime, t.out)) =
      some (96 / 25, [.sweepFreq (.V .ch1) (96 / 25) (625000 / 131), .setPos (.V .ch1) 0, .start (.V .ch1)]) := by decide +kernel

/-- V-INT-7. -/
theorem test_s2int_off :
    (tStep ((tBase []).setEnabled (.mel .ch2) true) fb0 0x01000440 0x3F).map
      (fun t => ((t.chan (.mel .ch2)).enabled, t.out)) = some (false, [.stop (.V .ch2)]) := by decide +kernel

/-- V-INT-8. -/
theorem test_s2int_stays :
    tOut ((tBase []).setEnabled (.mel .ch2) true) fb0 0x01000440 0xBF = some [] := by decide +kernel

/-- V-INT-4. -/
theorem test_s3int :
    tOut (tClean (tBase [])) (tFb 0 1000 1) 0x01000480 0xFF =
      some [.sweepFreq (.V .ch3) (3072 / 25) 1000, .setPos (.V .ch3) 0, .start (.V .ch3)] := by decide +kernel

/-- V-INT-9. -/
theorem test_s4int :
    tOut (tBase []) fb0 0x010004C0 0x25 = some [] := by decide +kernel

/-- V-INT-10: the tested slot is 4, which is clean. -/
theorem test_s5int :
    tOut ((tBase []).setWaveIndex .ch5 4 |>.setDirty 4 false) fb0 0x01000500 0x80 =
      some [.setPos (.V .ch5) 0, .start (.V .ch5)] := by decide +kernel

/-- V-INT-12. -/
theorem test_s6int :
    (tStep ((tBase []).setNoiseActive 7) (tFb 0 500000 9) 0x01000540 0xA3).map
      (fun t => ((t.chan .noise).sweep.intervalTime, t.blk.nsel.playing, t.out)) =
      some (384 / 25, true, [.sweepFreq (.N 7) (384 / 25) (500000 / 9), .setPos (.N 7) 0, .start (.N 7)]) := by decide +kernel

/-- V-INT-13. -/
theorem test_s6int_off :
    (tStep (((tBase []).setNoiseActive 4).setPlaying true |>.setEnabled .noise true) fb0 0x01000540 0x00).map
      (fun t => ((t.chan .noise).enabled, t.blk.nsel.playing, t.out)) = some (false, false, [.stop (.N 4)]) := by decide +kernel

/-- V-VP-2. -/
theorem test_s1lrv :
    tOut (tBase [(0x01000410, 0xF0)]) fb0 0x01000404 0x47 = some [.setVol (.V .ch1) 60, .setPan (.V .ch1) 80] := by decide +kernel

/-- V-VP-1. -/
theorem test_s1lrv_silent :
    tOut (tBase [(0x01000410, 0xF0)]) fb0 0x01000404 0x00 = some [.setVol (.V .ch1) 0, .setPan (.V .ch1) 128] := by decide +kernel

/-- V-VP-4 and V-VP-5. -/
theorem test_s2lrv :
    tOut (tBase [(0x01000450, 0xF0)]) fb0 0x01000444 0xF0 = some [.setVol (.V .ch2) 120, .setPan (.V .ch2) 248] ∧
      tOut (tBase [(0x01000450, 0xF0)]) fb0 0x01000444 0x0F = some [.setVol (.V .ch2) 120, .setPan (.V .ch2) 8] := by decide +kernel

/-- V-VP-6. -/
theorem test_s3lrv :
    tOut (tBase [(0x01000490, 0x50)]) fb0 0x01000484 0x10 = some [.setVol (.V .ch3) 5, .setPan (.V .ch3) 192] := by decide +kernel

/-- V-VP-8. -/
theorem test_s4lrv :
    tOut (tBase [(0x010004D0, 0x7E)]) fb0 0x010004C4 0x23 = some [.setVol (.V .ch4) 14, .setPan (.V .ch4) 96] := by decide +kernel

/-- V-VP-9. -/
theorem test_s5lrv :
    tOut (tBase []) fb0 0x01000504 0x84 = some [.setVol (.V .ch5) 0, .setPan (.V .ch5) 160] := by decide +kernel

/-- V-VP-10. -/
theorem test_s6lrv :
    tOut ((tBase [(0x01000550, 0x90)]).setNoiseActive 6) fb0 0x01000544 0x8F = some [.setVol (.N 6) 72, .setPan (.N 6) 72] := by decide +kernel

/-- V-EV-1: 46.08 and 446.4. -/
theorem test_s3ev0 :
    (tStep (tBase [(0x01000484, 0xFF), (0x01000494, 0x0A)]) (tFb 100 0 1) 0x01000490 0x91).map
      (fun t => ((t.chan (.mel .ch3)).envelope, t.out)) =
      some ({ active := true, growing := true, stepTime := 1152 / 25, currentLevel := 100 },
        [.setVol (.V .ch3) 72, .setPan (.V .ch3) 128, .rampVol (.V .ch3) 255 (2232 / 5)]) := by decide +kernel

/-- V-EV-10: bit 0 clear, the gate is closed. -/
theorem test_s1ev0 :
    tOut (tBase [(0x01000404, 0xFF), (0x01000414, 0x0F)]) (tFb 77 0 1) 0x01000410 0xFE = some [.setVol (.V .ch1) 120, .setPan (.V .ch1) 128] := by decide +kernel

/-- V-EV-7: the smallest duration, 0.96, and its floored value 0. -/
theorem test_s4ev0 :
    tOut (tBase [(0x010004C4, 0x11), (0x010004D4, 0x00)]) (tFb 1 0 1) 0x010004D0 0x31 =
      some [.setVol (.V .ch4) 3, .setPan (.V .ch4) 128, .rampVol (.V .ch4) 0 (24 / 25)] ∧ rampDuration true 0x00 1 = 0 := by decide +kernel

/-- V-EV-13: 1147.2. -/
theorem test_s6ev0 :
    (tOut (tBase [(0x01000544, 0x22), (0x01000554, 0x0C)]) (tFb 16 0 1) 0x01000550 0x41) =
      some [.setVol (.N 0) 8, .setPan (.N 0) 128, .rampVol (.N 0) 255 (5736 / 5)] := by decide +kernel

/-- V-EV-2: 614.4. -/
theorem test_s2ev1 :
    tOut (tBase [(0x01000444, 0x80), (0x01000450, 0xA1)]) (tFb 80 0 1) 0x01000454 0x07 =
      some [.setVol (.V .ch2) 80, .setPan (.V .ch2) 192, .rampVol (.V .ch2) 0 (3072 / 5)] := by decide +kernel

/-- V-EV-11: gate closed in memory. -/
theorem test_s1ev1 :
    tOut (tBase [(0x01000404, 0x22), (0x01000410, 0xF0)]) (tFb 77 0 1) 0x01000414 0x0F = some [.setVol (.V .ch1) 30, .setPan (.V .ch1) 128] := by decide +kernel

/-- V-SW-14: all three engines in one step. -/
theorem test_s5ev1 :
    (tStep ((tBase [(0x01000504, 0x88), (0x01000510, 0x81), (0x0100051C, 0x51)]).setChan .full
      { Channel.reset with frequencyReg := 300 }) (tFb 64 0 1) 0x01000514 0x49).map State.out =
      some [.setVol (.V .ch5) 64, .setPan (.V .ch5) 128, .rampVol (.V .ch5) 255 (9168 / 25),
        .sweepFreq (.V .ch5) 720 (78125 / 32)] := by decide +kernel

/-- V-SW-10. -/
theorem test_s5ev1_modulation :
    (tStep ((tBase [(0x01000504, 0x88), (0x01000510, 0x80), (0x0100051C, 0xAB)]).setChan .full
      { Channel.reset with frequencyReg := 1000 }) fb0 0x01000514 0x50).map
      (fun t => ((t.chan .full).sweep.active, (t.chan .full).sweep.isModulation, t.out)) =
      some (true, true, [.setVol (.V .ch5) 64, .setPan (.V .ch5) 128]) := by decide +kernel

/-- V-SW-3: 960/7. -/
theorem test_s5swp :
    tOut ((tBase [(0x01000514, 0x40)]).setChan .full { Channel.reset with frequencyReg := 1000 }) fb0 0x0100051C 0x16 =
      some [.sweepFreq (.V .ch5) (960 / 7) (78125 / 32)] := by decide +kernel

/-- V-SW-4: the largest duration, 110046.72. -/
theorem test_s5swp_add :
    tOut (tBase [(0x01000514, 0x40)]) fb0 0x0100051C 0xF8 = some [.sweepFreq (.V .ch5) (2751168 / 25) 500000] := by decide +kernel

/-- V-NS-4. -/
theorem test_s6ev1 :
    tOut (((tBase [(0x01000544, 0xC4), (0x01000550, 0x61)]).setNoiseActive 7).setPlaying true) (tFb 200 0 1) 0x01000554 0x02 =
      some [.stop (.N 7), .setPos (.N 0) 0, .start (.N 0), .setVol (.N 0) 48, .setPan (.N 0) 192, .rampVol (.N 0) 0 576] := by decide +kernel

/-- V-NS-2. -/
theorem test_s6ev1_not_playing :
    tOut (tBase []) fb0 0x01000554 0x30 = some [.stop (.N 0), .setVol (.N 3) 0, .setPan (.N 3) 128] := by decide +kernel

/-- V-FQ-2. -/
theorem test_s1fql :
    (tStep (tBase [(0x0100040C, 0x03)]) fb0 0x01000408 0xE8).map (fun t => ((t.chan (.mel .ch1)).frequencyReg, t.out)) =
      some (1000, [.setFreq (.V .ch1) (625000 / 131)]) := by decide +kernel

/-- V-FQ-3 and V-FQ-5: unclamped and clamped. -/
theorem test_s2fqh :
    tOut (tBase [(0x01000448, 0xF5)]) fb0 0x0100044C 0x07 = some [.setFreq (.V .ch2) (5000000 / 11)] ∧
      (tStep (tBase [(0x01000448, 0xF7)]) fb0 0x0100044C 0x07).map (fun t => ((t.chan (.mel .ch2)).frequencyReg, t.out)) =
      some (2039, [.setFreq (.V .ch2) 500000]) := by decide +kernel

/-- V-FQ-6. -/
theorem test_s3fqh :
    tOut (tBase [(0x01000488, 0xFF)]) fb0 0x0100048C 0xFF = some [.setFreq (.V .ch3) 500000] := by decide +kernel

/-- V-FQ-7. -/
theorem test_s6fql :
    tOut (tBase []) fb0 0x01000548 0x00 = some [.setFreq (.N 0) (15625 / 64)] := by decide +kernel

/-- V-FQ-8 and V-FQ-10: the selected voice; no clamp. -/
theorem test_s6fqh :
    tOut ((tBase []).setNoiseActive 5) fb0 0x0100054C 0x04 = some [.setFreq (.N 5) (15625 / 32)] ∧
      tOut (tBase [(0x01000548, 0xF7)]) fb0 0x0100054C 0x07 = some [.setFreq (.N 0) (500000 / 9)] := by decide +kernel

/-- V-FQ-11 first half and V-FQ-13. -/
theorem test_s4fql_s5fql :
    tOut (tBase []) fb0 0x010004C8 0x00 = some [.setFreq (.V .ch4) (78125 / 32)] ∧
      tOut (tBase [(0x0100050C, 0x02)]) fb0 0x01000508 0x10 = some [.setFreq (.V .ch5) (62500 / 19)] := by decide +kernel

/-- V-ST-2. -/
theorem test_sstop :
    tOut (tBase []) fb0 0x01000580 0x00 =
      some [.stop (.V .ch1), .stop (.V .ch2), .stop (.V .ch3), .stop (.V .ch4), .stop (.V .ch5), .stop (.N 0)] := by decide +kernel

/-- V-UD-1. -/
theorem test_undef :
    (tStep (tBase []) fb0 0x01000401 0xFF).map (fun t => (t.out, t.blk)) = some ([], State.reset.blk) := by decide +kernel

/-- V-GT-1 and V-GT-2: a closed gate tracks nothing. -/
theorem test_gate_off :
    (match step { tClean (tBase []) with env := { State.reset.env with sndEn := false, inbox := [.st 0x01000000 0x3F] } } with
      | .next t => (t.blk.dirty.toList, t.memRead 0x01000000) | _ => ([], 0)) = ([false, false, false, false, false], 0x3F) ∧
      (match step ((State.resetWith Config.default false).setInbox [.st 0x01000400 0x80]) with
      | .next t => ((t.chan (.mel .ch1)).enabled, t.out) | _ => (true, [])) = (false, []) := by decide +kernel

/-! ## A witness for the hypotheses of each obligation that has some -/

/-- The step answers a next state. -/
def tNext (s : State) : Bool := match step s with | .next _ => true | _ => false

/-- Reset with the given actions pending. -/
def tIn (acts : List HostAction) : State := State.reset.setInbox acts

/-- A loud, keyed-on CH1: no reset state. -/
def tBusy : State :=
  ((tBase [(0x01000400, 0x80)]).setChan (.mel .ch1) { Channel.reset with enabled := true, volume := 120, pan := 248 }).setInbox
    [.notify 0x01000400]

theorem witness_DecodeOfEncodeIsTheInstruction :
    Config.default.wf = true ∧ (Instr.wave4 0x7F).wf Config.default = true ∧ (Instr.s5swp).wf Config.default = true ∧
      (Instr.undef 0xFFFFFFFF).wf Config.default = true := by decide

theorem witness_EncodeOfDecodeIsTheAddress :
    decode Config.default 0x0100027F = .ok (.wave4 0x7F) ∧ decode Config.default 0xFFFFFFFF = .ok (.undef 0xFFFFFFFF) := by decide

theorem witness_DefaultRegionRowsAreTheirMasks :
    (0x0100027F < 2 ^ 32 ∧ 0x0100027F / 128 = 131072 + (4 : Slot).val ∧ 0x7F = 0x0100027F % 128) ∧
      (0x010002FF < 2 ^ 32 ∧ 0x010002FF / 128 = 131077 ∧ 0x7F = 0x010002FF % 128) := by decide

theorem witness_StepRunsTheDecodedInstruction :
    (tIn [.notify 0x01000580]).env.alive = true ∧ (tIn [.notify 0x01000580]).env.sndEn = true ∧
      (tIn [.notify 0x01000580]).blk.failed = false ∧ decode (tIn [.notify 0x01000580]).env.cfg 0x01000580 = .ok .sstop ∧
      (tIn [.notify 0x01000580]).env.inbox = .notify 0x01000580 :: [] ∧
      (tIn [.st 0x01000580 1]).env.inbox = .st 0x01000580 1 :: [] := by decide

theorem witness_FeedbackIsSampledOnce :
    State.reset.env.backend = none ∧
      ({ State.reset with env := { State.reset.env with backend := some fb0 } } : State).env.backend = some fb0 :=
  ⟨rfl, rfl⟩

theorem witness_ClosedGateStepDoesNothing :
    ({ tIn [.notify 0x01000400] with env := { (tIn [.notify 0x01000400]).env with sndEn := false } } : State).env.sndEn = false ∧
      ((State.resetWith Config.default false).setInbox [.st 0xFFFFFFFF 1]).blk.failed = true ∧
      ((State.resetWith Config.default false).setInbox [.st 0xFFFFFFFF 1]).env.alive = true ∧
      0xFFFFFFFF < 2 ^ (State.resetWith Config.default false).env.cfg.addrW := by decide

theorem witness_WrittenByteStandsAfterTheStep :
    (tIn [.st 0xFFFFFFFF 1]).env.bus.wf = true ∧ (tIn [.st 0xFFFFFFFF 1]).env.inbox = .st 0xFFFFFFFF 1 :: [] ∧
      tNext (tIn [.st 0xFFFFFFFF 1]) = true := by decide +kernel

theorem witness_UnnotifiedWriteIsInvisible :
    (tIn [.poke 0xFFFFFFFF 1]).env.bus.wf = true ∧ (tIn [.poke 0xFFFFFFFF 1]).env.inbox = .poke 0xFFFFFFFF 1 :: [] ∧
      0xFFFFFFFF < 2 ^ (tIn [.poke 0xFFFFFFFF 1]).env.cfg.addrW := by decide

/-- At the top of the address space, and over a gap and two registers. -/
theorem witness_WideStoreOwesOneNotificationPerMappedByte :
    ((tIn [.store 0xFFFFFFFE [1, 2]]).env.bus.wf = true ∧
      (tIn [.store 0xFFFFFFFE [1, 2]]).env.inbox = .store 0xFFFFFFFE [1, 2] :: [] ∧
      0xFFFFFFFE + [1, 2].length ≤ 2 ^ (tIn [.store 0xFFFFFFFE [1, 2]]).env.cfg.addrW) ∧
      owedNotifications AddrMap.default 0x010003FF 6 = [.notify 0x01000400, .notify 0x01000404] := by decide

theorem witness_NotificationsNeverStopTheMachine :
    (tIn [.notify 0xFFFFFFFF]).env.alive = true ∧ 0xFFFFFFFF < 2 ^ (tIn [.notify 0xFFFFFFFF]).env.cfg.addrW ∧
      (tIn [.notify 0xFFFFFFFF]).env.inbox = .notify 0xFFFFFFFF :: [] := by decide

theorem witness_StepsOnlyAppendCommands : tNext (tIn [.notify 0x01000580]) = true := by decide +kernel

theorem witness_SoundRamWriteMarksItsSlot : State.reset.env.cfg.wf = true ∧ 0x7F < 0x80 := by decide

theorem witness_ModulationDataWriteMarksTheMask :
    State.reset.env.cfg.wf = true ∧ 0x7F < State.reset.env.cfg.map.modBytes ∧
      State.reset.env.cfg.modDirtyMask = 0b11111 := by decide

theorem witness_ConversionAndEnableUpload :
    (63 : Byte).toNat < 64 ∧ ((tBase [(0x01000400, 0x80)]).chan (.mel .ch1)).enabled = false ∧
      128 ≤ ((tBase [(0x01000400, 0x80)]).intByte (.mel .ch1)).toNat ∧
      (tBase [(0x01000400, 0x80)]).dirty ((tBase [(0x01000400, 0x80)]).waveIndex .ch1) = true := by decide

/-- The boundary 4, disabled and enabled. -/
theorem witness_LegalPointerWrite :
    ((tBase [(0x01000418, 0xF4)]).ramByte .ch1).toNat % 16 = (4 : Slot).val ∧ State.reset.env.cfg.wf = true ∧
      ((tBase [(0x01000418, 0xF4)]).chan (.mel .ch1)).enabled = false ∧ (tBusy.ramByte .ch1).toNat % 16 = (0 : Slot).val ∧
      (tBusy.chan (.mel .ch1)).enabled = true := by decide

/-- The boundaries 5 and 15. -/
theorem witness_OutOfRangePointerIsIgnored :
    5 ≤ ((tBase [(0x01000418, 0x05)]).ramByte .ch1).toNat % 16 ∧
      5 ≤ ((tBase [(0x01000418, 0x0F)]).ramByte .ch1).toNat % 16 := by decide

theorem witness_UploadsOnlyWhileDisabled :
    ∃ t cs, exec .s1ram (tBase []) = .next t ∧ t.out = (tBase []).out ++ cs ∧
      .upload (.V .ch1) (Vector.replicate 32 0x80) ∈ cs :=
  ⟨_, [.upload (.V .ch1) (Vector.replicate 32 0x80)], rfl, by decide +kernel, List.mem_singleton.mpr rfl⟩

theorem witness_DirtyIsClearedOnlyByRecopy :
    ∃ t cs, exec .s1ram (tBase []) = .next t ∧ t.out = (tBase []).out ++ cs ∧ (tBase []).dirty 0 = true ∧
      t.dirty 0 = false :=
  ⟨_, [.upload (.V .ch1) (Vector.replicate 32 0x80)], rfl, by decide +kernel, by decide, by decide +kernel⟩

theorem witness_SharedDirtyFlagUploadsOnce :
    let s := tBase [(0x01000400, 0x80), (0x01000440, 0xA9)]
    Mel.ch1 ≠ Mel.ch2 ∧ s.waveIndex .ch1 = s.waveIndex .ch2 ∧ s.dirty (s.waveIndex .ch1) = true ∧
      (s.chan (.mel .ch1)).enabled = false ∧ (s.chan (.mel .ch2)).enabled = false ∧
      128 ≤ (s.intByte (.mel .ch1)).toNat ∧ 128 ≤ (s.intByte (.mel .ch2)).toNat ∧
      ∃ t u, exec (.intOf (.mel .ch1)) s = .next t ∧ exec (.intOf (.mel .ch2)) t = .next u :=
  ⟨by decide, by decide, by decide, by decide, by decide, by decide, by decide, _, _, rfl, rfl⟩

/-- Each clause, with the interval values 31 and 0. -/
theorem witness_MelodicEnableMachine :
    (let s := tBase [(0x01000400, 0xBF)];
      s.env.cfg.wf = true ∧ (s.chan (.mel .ch1)).enabled = false ∧ (s.intByte (.mel .ch1)).toNat / 128 = 1 ∧
        (s.intByte (.mel .ch1)).toNat % 32 = 31) ∧
    (let s := (tBase [(0x01000400, 0x7F)]).setEnabled (.mel .ch1) true;
      (s.chan (.mel .ch1)).enabled = true ∧ (s.intByte (.mel .ch1)).toNat / 128 = 0) ∧
    (tBusy.chan (.mel .ch1)).enabled = decide ((tBusy.intByte (.mel .ch1)).toNat / 128 = 1) := by decide

theorem witness_NoiseEnableMachine :
    (let s := tBase [(0x01000540, 0xA0)];
      s.env.cfg.wf = true ∧ (s.chan .noise).enabled = false ∧ (s.intByte .noise).toNat / 128 = 1 ∧
        (s.intByte .noise).toNat % 32 = 0) ∧
    (let s := (tBase []).setEnabled .noise true;
      (s.chan .noise).enabled = true ∧ (s.intByte .noise).toNat / 128 = 0) ∧
    ((tBase []).chan .noise).enabled = decide (((tBase []).intByte .noise).toNat / 128 = 1) := by decide

theorem witness_OnlyItsOwnRegisterEnablesAChannel :
    ∃ t, exec (.intOf .noise) (tBase []) = .next t ∧ Instr.intOf .noise ≠ Instr.intOf (.mel .ch1) :=
  ⟨_, rfl, by decide⟩

theorem witness_NoRetriggerAfterGlobalStop :
    (tBusy.chan (.mel .ch1)).enabled = true ∧ 128 ≤ (tBusy.intByte (.mel .ch1)).toNat ∧ ∃ t, exec .sstop tBusy = .next t :=
  ⟨by decide, by decide, _, rfl⟩

theorem witness_LevelWriteDerivesVolumeAndPan : State.reset.env.cfg.wf = true := by decide

/-- EV0 bit 0 clear and set; SxEV1 of CH4. -/
theorem witness_EnvelopeRegisterWrite :
    Instr.s4ev1 = .ev1Of (.mel .ch4) ∧ Chan.mel .ch4 ≠ .full ∧ Chan.mel .ch4 ≠ .noise ∧ State.reset.env.cfg.wf = true ∧
      ((tBase [(0x010004D0, 0xFE)]).ev0Byte (.mel .ch4)).toNat % 2 = 0 ∧
      ((tBase [(0x010004D0, 0x01)]).ev0Byte (.mel .ch4)).toNat % 2 = 1 := by decide

/-- Sweep mode, modulation mode, gate closed. -/
theorem witness_SweepControlWrite :
    State.reset.env.cfg.wf = true ∧
      (let e := ((tBase [(0x01000514, 0x40)]).ev1Byte .full).toNat; e / 64 % 2 = 1 ∧ e / 16 % 2 = 0) ∧
      (let e := ((tBase [(0x01000514, 0x50)]).ev1Byte .full).toNat; ¬ (e / 64 % 2 = 1 ∧ e / 16 % 2 = 0)) ∧
      (let e := ((tBase []).ev1Byte .full).toNat; ¬ (e / 64 % 2 = 1 ∧ e / 16 % 2 = 0)) := by decide

theorem witness_FullChannelEnvelopeWrite : State.reset.env.cfg.wf = true := by decide

theorem witness_NoiseVoiceWrite : State.reset.env.cfg.wf = true := by decide

theorem witness_FrequencyWrite :
    Instr.s6fql = .fqlOf .noise ∧ Instr.s1fqh = .fqhOf (.mel .ch1) ∧ State.reset.env.cfg.wf = true := by decide

theorem witness_GlobalStopOnlyStops : State.reset.env.cfg.wf = true := by decide

theorem witness_UndefinedAddressIsIgnored :
    (tIn [.notify 0x01000401]).env.alive = true ∧ (tIn [.notify 0x01000401]).env.inbox = .notify 0x01000401 :: [] ∧
      0x01000401 < 2 ^ (tIn [.notify 0x01000401]).env.cfg.addrW ∧
      (tIn [.notify 0x01000401]).map.mapped 0x01000401 = false := by decide

/-- An instruction that sets a clean flag and that other fields' frames exclude, and one that clears a flag. -/
theorem witness_FieldsAreWrittenOnlyByTheirRows :
    (∃ t, exec (.wave1 0) (tClean (tBase [])) = .next t ∧ (tClean (tBase [])).dirty 1 = false ∧ t.dirty 1 = true ∧
      Instr.wave1 0 ≠ .fqlOf .noise ∧ Instr.wave1 0 ≠ .fqhOf .noise ∧ Instr.wave1 0 ≠ .intOf .noise) ∧
      ∃ t, exec .s1ram (tBase []) = .next t ∧ (tBase []).dirty 0 = true ∧ t.dirty 0 = false :=
  ⟨⟨_, rfl, by decide, by decide +kernel, by decide, by decide, by decide⟩, _, rfl, by decide, by decide +kernel⟩

theorem witness_OnlyTheAddressedChannelIsTouched :
    (∃ t cs, exec .s1fql (tBase []) = .next t ∧ t.out = (tBase []).out ++ cs ∧ channelOf .s1fql = some (.mel .ch1)) ∧
      ∃ t cs, exec (.wave0 0) (tBase []) = .next t ∧ t.out = (tBase []).out ++ cs ∧ channelOf (.wave0 0) = none :=
  ⟨⟨_, [.setFreq (.V .ch1) (78125 / 32)], rfl, by decide +kernel, rfl⟩, ⟨_, [], rfl, by decide +kernel, rfl⟩⟩

/-- Another memory with the same bytes where S1LRV reads. -/
theorem witness_OnlyTheListedBytesMatter :
    let s := tBase [(0x01000400, 0x80), (0x01000404, 0x47)]
    [((0x01000404 : Nat), (0x47 : Byte))] ≠ s.env.bus ∧
      ∀ a ∈ reads .s1lrv s, Memory.read [(0x01000404, 0x47)] a = s.memRead a := by decide +kernel

/-- S1INT with another volume sample but the same frequency sample. -/
theorem witness_FeedbackReachesOnlyItsTwoUses :
    ∃ t, exec .s1int (tBase []) = .next t ∧ tFb 9 0 1 ≠ (tBase []).env.sample ∧
      (∀ x, Instr.s1int = .intOf x → (tFb 9 0 1).freq = (tBase []).env.sample.freq) ∧
      ∀ x, Instr.s1int = .ev0Of x ∨ Instr.s1int = .ev1Of x → (tFb 9 0 1).vol = (tBase []).env.sample.vol := by
  refine ⟨_, rfl, by decide +kernel, fun _ _ => by decide +kernel, fun x h => absurd h ?_⟩
  rcases x with (_ | _ | _ | _ | _) | _ <;> decide

/-- Two states that differ in shadow fields alone. -/
theorem witness_ShadowFieldsNeverReachTheOutput :
    State.reset.Agrees (State.reset.setChan (.mel .ch1) { Channel.reset with volume := 60, pan := 80 }) ∧
      State.reset ≠ State.reset.setChan (.mel .ch1) { Channel.reset with volume := 60, pan := 80 } := by
  refine ⟨⟨fun x => ?_, rfl, rfl, rfl, rfl, rfl, rfl, rfl⟩, fun h => ?_⟩
  · rcases x with (_ | _ | _ | _ | _) | _ <;> rfl
  · exact absurd (congrArg (fun s : State => (s.chan (.mel .ch1)).volume) h) (by decide)

/-- A state that is not the reset state meets the invariant, and its step answers. -/
theorem witness_EveryStepKeepsTheInvariant : tBusy.Inv ∧ tNext tBusy = true := by
  refine ⟨⟨by decide, fun x _ => ?_, fun x => ?_, fun c hc => ?_, by decide, by decide⟩, by decide +kernel⟩
  · rcases x with (_ | _ | _ | _ | _) | _ <;> exact ⟨rfl, rfl⟩
  · rcases x with (_ | _ | _ | _ | _) | _ <;> exact ⟨by decide, by decide, by decide, .inl rfl, .inl rfl⟩
  · exact absurd hc (List.not_mem_nil (a := c))

theorem witness_FailureLastsUntilReinitialisation :
    (let s := (State.resetWith Config.default false).setInbox [.notify 0x01000400];
      s.env.alive = true ∧ s.blk.failed = true ∧ tNext s = true) ∧
      (State.reset.shutdown.setInbox [.init true]).env.alive = false ∧
      (State.reset.shutdown.setInbox [.init true]).env.inbox = .init true :: [] := by decide +kernel

theorem witness_FailedAndConfigurationAreConstant :
    tNext (tIn [.notify 0x01000400]) = true ∧ ∀ ok rest, (tIn [.notify 0x01000400]).env.inbox ≠ .init ok :: rest :=
  ⟨by decide +kernel, fun _ _ h => by cases h⟩

theorem witness_LifeCycle :
    ((tIn [.shutdown]).env.alive = true ∧ (tIn [.shutdown]).env.inbox = .shutdown :: []) ∧
      ((State.reset.shutdown.setInbox [.notify 0]).env.alive = false ∧
        (State.reset.shutdown.setInbox [.notify 0]).env.inbox = .notify 0 :: []) ∧
      ((tIn [.init true]).env.alive = true ∧ (tIn [.init true]).env.inbox = .init true :: []) := by decide

theorem witness_NothingHappensWithoutANotification :
    State.reset.env.inbox = [] ∧ (tIn [.poke 0xFFFFFFFF 1]).env.inbox = .poke 0xFFFFFFFF 1 :: [] ∧
      tNext (tIn [.poke 0xFFFFFFFF 1]) = true ∧ (∀ a, HostAction.poke 0xFFFFFFFF 1 ≠ .notify a) ∧
      (∀ a v, HostAction.poke 0xFFFFFFFF 1 ≠ .st a v) ∧ ∀ ok, HostAction.poke 0xFFFFFFFF 1 ≠ .init ok :=
  ⟨rfl, rfl, by decide +kernel, nofun, nofun, nofun⟩

theorem witness_OnlyTheHostSetsTheGateAndTheScript :
    (tIn [.sndEn false]).env.inbox = .sndEn false :: [] ∧ (tIn [.fb fb0]).env.inbox = .fb fb0 :: [] ∧
      tNext (tIn [.notify 0]) = true ∧ (∀ on rest, (tIn [.notify 0]).env.inbox ≠ .sndEn on :: rest) ∧
      ∀ f rest, (tIn [.notify 0]).env.inbox ≠ .fb f :: rest :=
  ⟨rfl, rfl, by decide +kernel, nofun, nofun⟩

end Sys2Proof.Tests
end

/-! The effect of a row, said once for all rows: which records, flags and voices the row may touch, what it keeps of
the invariant of 10_state.md R44, and that it only appends legal commands (00_scope.md R9). -/

namespace Sys2Proof.Machine

/-! ## One channel's record -/

/-- What a write of channel x's record from `c` to `d` keeps: the sweep gate bits of every channel but CH5 (10_state.md
R44 ii), and the ranges of R44 (iii), (v). -/
structure Channel.Follows (x : Chan) (c d : Channel) : Prop where
  gate : x ≠ .full → d.sweep.active = c.sweep.active ∧ d.sweep.isModulation = c.sweep.isModulation
  inRange : c.inRange → d.inRange

namespace Channel.Follows

theorem refl (x : Chan) (c : Channel) : c.Follows x c := ⟨fun _ => ⟨rfl, rfl⟩, id⟩

theorem trans {x : Chan} {c d e : Channel} (h : c.Follows x d) (k : d.Follows x e) : c.Follows x e where
  gate hx := ⟨(k.gate hx).1.trans (h.gate hx).1, (k.gate hx).2.trans (h.gate hx).2⟩
  inRange hc := k.inRange (h.inRange hc)

theorem of_enabled (x : Chan) (c : Channel) (b : Bool) : c.Follows x { c with enabled := b } :=
  ⟨fun _ => ⟨rfl, rfl⟩, id⟩

theorem of_frequency (x : Chan) (c : Channel) (f : Fin 2048) : c.Follows x { c with frequencyReg := f } :=
  ⟨fun _ => ⟨rfl, rfl⟩, id⟩

/-- The derived volume and pan lie in their ranges (42_volume_pan.md R171, R172). -/
theorem of_levels (x : Chan) (c : Channel) (o level left right : BitVec 4) :
    c.Follows x { c with volume := nominalVolume o level, pan := derivedPan left right } where
  gate _ := ⟨rfl, rfl⟩
  inRange := fun ⟨_, _, _, hstep, hinterval⟩ =>
    ⟨volumeNat_le o level, (derivedPan_range left right).1, (derivedPan_range left right).2.1, hstep, hinterval⟩

theorem of_envelopeGate (x : Chan) (c : Channel) (b : Bool) :
    c.Follows x { c with envelope := { c.envelope with active := b } } :=
  ⟨fun _ => ⟨rfl, rfl⟩, id⟩

/-- An evaluated envelope's step time is a multiple 1..8 of 15.36 DU (43_envelope.md R192). -/
theorem of_envelope (x : Chan) (c : Channel) (on grow : Bool) (ev1 : Byte) (v : Fin 256) :
    c.Follows x { c with envelope :=
      { active := on, growing := grow, stepTime := envelopeStep ev1, currentLevel := v } } where
  gate _ := ⟨rfl, rfl⟩
  inRange := fun ⟨hvolume, hlow, hhigh, _, hinterval⟩ =>
    ⟨hvolume, hlow, hhigh,
      .inr ⟨ev1.toNat % 8 + 1, by omega, by omega, by simp [envelopeStep_eq]⟩, hinterval⟩

/-- An armed interval is a multiple 1..32 of 3.84 DU (41_channel_enable.md R152). -/
theorem of_interval (x : Chan) (c : Channel) (b : Byte) :
    c.Follows x { c with sweep := { c.sweep with intervalTime := intervalDuration b } } where
  gate _ := ⟨rfl, rfl⟩
  inRange := fun ⟨hvolume, hlow, hhigh, hstep, _⟩ =>
    ⟨hvolume, hlow, hhigh, hstep,
      .inr ⟨b.toNat % 32 + 1, by omega, by omega, by simp [intervalDuration_eq]⟩⟩

/-- The gate bits of S5EV1 are recorded in CH5 alone (44_sweep.md R211). -/
theorem of_sweepGate (c : Channel) (on modulation : Bool) :
    c.Follows .full { c with sweep := { c.sweep with active := on, isModulation := modulation } } :=
  ⟨fun h => absurd rfl h, id⟩

end Channel.Follows

/-! ## What an operation may do to the machine -/

/-- `t` is what an operation on behalf of channel `who` (or of none) may make of `s`, its commands being addressed to
voices in `voices`. -/
structure Effect (who : Option Chan) (voices : Set Voice) (s t : State) : Prop where
  env : t.env = s.env
  failed : t.blk.failed = s.blk.failed
  others : ∀ y, who ≠ some y → t.chan y = s.chan y
  waveIndexes : ∀ m, who ≠ some (.mel m) → t.waveIndex m = s.waveIndex m
  records : ∀ y, (s.chan y).Follows y (t.chan y)
  playing : s.blk.nsel.playing = (s.chan .noise).enabled → t.blk.nsel.playing = (t.chan .noise).enabled
  commands : ∃ cs, t.out = s.out ++ cs ∧ ∀ c ∈ cs, c.legal ∧ c.voice ∈ voices

namespace Effect

theorem refl (who : Option Chan) (V : Set Voice) (s : State) : Effect who V s s where
  env := rfl
  failed := rfl
  others _ _ := rfl
  waveIndexes _ _ := rfl
  records y := .refl y _
  playing := id
  commands := ⟨[], by simp⟩

theorem trans {who : Option Chan} {V : Set Voice} {s t u : State} (h : Effect who V s t) (k : Effect who V t u) :
    Effect who V s u where
  env := k.env.trans h.env
  failed := k.failed.trans h.failed
  others y hy := (k.others y hy).trans (h.others y hy)
  waveIndexes m hm := (k.waveIndexes m hm).trans (h.waveIndexes m hm)
  records y := (h.records y).trans (k.records y)
  playing hp := k.playing (h.playing hp)
  commands := by
    obtain ⟨cs, hcs, hlegal⟩ := h.commands
    obtain ⟨ds, hds, hlegal'⟩ := k.commands
    refine ⟨cs ++ ds, by rw [hds, hcs, List.append_assoc], fun c hc => ?_⟩
    exact (List.mem_append.mp hc).elim (hlegal c) (hlegal' c)

theorem mono {who : Option Chan} {V W : Set Voice} {s t : State} (h : Effect who V s t) (hVW : V ⊆ W) :
    Effect who W s t := by
  obtain ⟨cs, hcs, hV⟩ := h.commands
  exact { h with commands := ⟨cs, hcs, fun c hc => ⟨(hV c hc).1, hVW (hV c hc).2⟩⟩ }

/-- Only the block's tables change: every record, the play flag and the stream stand. -/
theorem of_tables {who : Option Chan} {V : Set Voice} {s t : State} (henv : t.env = s.env)
    (hfailed : t.blk.failed = s.blk.failed) (hch : t.blk.ch = s.blk.ch)
    (hwave : ∀ m, who ≠ some (.mel m) → t.waveIndex m = s.waveIndex m)
    (hplaying : t.blk.nsel.playing = s.blk.nsel.playing) (hout : t.out = s.out) : Effect who V s t := by
  have hchan : ∀ y, t.chan y = s.chan y := fun y => by simp only [State.chan, hch]
  exact
    { env := henv
      failed := hfailed
      others := fun y _ => hchan y
      waveIndexes := hwave
      records := fun y => hchan y ▸ .refl y _
      playing := fun h => by rw [hplaying, h, hchan]
      commands := ⟨[], by simp [hout]⟩ }

theorem setDirty (who : Option Chan) (V : Set Voice) (s : State) (k : Slot) (b : Bool) :
    Effect who V s (s.setDirty k b) :=
  of_tables rfl rfl rfl (fun _ _ => rfl) rfl rfl

theorem markMasked (who : Option Chan) (V : Set Voice) (s : State) (mask : BitVec 5) :
    Effect who V s (s.markMasked mask) :=
  of_tables rfl rfl rfl (fun _ _ => rfl) rfl rfl

theorem setNoiseActive (who : Option Chan) (V : Set Voice) (s : State) (n : NoiseIx) :
    Effect who V s (s.setNoiseActive n) :=
  of_tables rfl rfl rfl (fun _ _ => rfl) rfl rfl

theorem setWaveIndex (V : Set Voice) (s : State) (m : Mel) (k : Slot) :
    Effect (some (.mel m)) V s (s.setWaveIndex m k) :=
  of_tables rfl rfl rfl
    (fun j hj => by rw [waveIndex_setWaveIndex, if_neg fun h : j = m => hj (h ▸ rfl)]) rfl rfl

theorem emits {who : Option Chan} {V : Set Voice} (s : State) {cs : List Cmd}
    (h : ∀ c ∈ cs, c.legal ∧ c.voice ∈ V) : Effect who V s (s.emits cs) where
  env := rfl
  failed := rfl
  others _ _ := rfl
  waveIndexes _ _ := rfl
  records y := .refl y _
  playing := id
  commands := ⟨cs, rfl, h⟩

/-- A record is replaced and `nsel.playing` set so that the two still agree. -/
theorem setChan_setPlaying {x : Chan} (V : Set Voice) {s : State} {c : Channel} {p : Bool}
    (hc : (s.chan x).Follows x c)
    (hp : s.blk.nsel.playing = (s.chan .noise).enabled → p = ((s.setChan x c).chan .noise).enabled) :
    Effect (some x) V s ((s.setChan x c).setPlaying p) where
  env := rfl
  failed := rfl
  others y hy := chan_setChan_ne s c fun h => hy (h ▸ rfl)
  waveIndexes _ _ := rfl
  records y := by
    show (s.chan y).Follows y ((s.setChan x c).chan y)
    rw [chan_setChan]
    split
    · next h => exact h ▸ hc
    · exact .refl y _
  playing := hp
  commands := ⟨[], by simp [State.setPlaying]⟩

/-- A record is replaced; only a melodic channel's `enabled` may change, since `nsel.playing` stands. -/
theorem setChan {x : Chan} (V : Set Voice) {s : State} {c : Channel} (hc : (s.chan x).Follows x c)
    (he : x = .noise → c.enabled = (s.chan x).enabled) : Effect (some x) V s (s.setChan x c) :=
  setChan_setPlaying (p := s.blk.nsel.playing) V hc fun h => by
    rw [h, chan_setChan]
    split
    · next hx => rw [he hx.symm, hx]
    · rfl

/-- The two flags of CH6 are set together (41_channel_enable.md R155). -/
theorem setNoiseEnabled (V : Set Voice) (s : State) (b : Bool) :
    Effect (some .noise) V s ((s.setEnabled .noise b).setPlaying b) :=
  setChan_setPlaying V (.of_enabled .noise _ b) fun _ => by simp

theorem setMelodicEnabled (V : Set Voice) (s : State) (m : Mel) (b : Bool) :
    Effect (some (.mel m)) V s (s.setEnabled (.mel m) b) :=
  setChan V (.of_enabled _ _ b) nofun

/-- The commands an operation has appended go to its voices: the list appended is determined by the two streams. -/
theorem voice_mem {who : Option Chan} {V : Set Voice} {s t : State} (h : Effect who V s t) {cs : List Cmd}
    (hcs : t.out = s.out ++ cs) : ∀ c ∈ cs, c.voice ∈ V := by
  obtain ⟨ds, hds, hV⟩ := h.commands
  obtain rfl : cs = ds := List.append_cancel_left (hcs.symm.trans hds)
  exact fun c hc => (hV c hc).2

end Effect

/-! ## Legal command arguments -/

theorem intervalDuration_nonneg (b : Byte) : 0 ≤ intervalDuration b := by
  rw [intervalDuration_eq]; positivity

theorem rampDuration_nonneg (floor : Bool) (b : Byte) (v : Fin 256) : 0 ≤ rampDuration floor b v := by
  unfold rampDuration div16
  rw [envelopeStep_eq]
  split <;> positivity

theorem sweepDuration_nonneg (b : Byte) (f : Fin 2048) : 0 ≤ sweepDuration b f := by
  unfold sweepDuration sweepInterval kSwpSlow kSwpFast
  split <;> positivity

/-- Every frequency code has a positive rate: neither divisor is 0 (46_frequency.md R246). -/
theorem rate_pos (x : Chan) (c : Fin 2048) : 0 < rate x c := by
  have hc := c.isLt
  cases x with
  | mel m =>
    have hdiv : 0 < 2048 - min c.val freqClamp := by omega
    show 0 < clkMelodic / ((2048 - min c.val freqClamp : Nat) : Rat)
    exact div_pos (by norm_num [clkMelodic]) (by exact_mod_cast hdiv)
  | noise =>
    have hdiv : 0 < 2048 - c.val := by omega
    show 0 < clkNoise / ((2048 - c.val : Nat) : Rat)
    exact div_pos (by norm_num [clkNoise]) (by exact_mod_cast hdiv)

theorem sweepTarget_nonneg (dir : Bool) : 0 ≤ sweepTarget dir := by
  cases dir <;> exact (rate_pos (.mel .ch5) _).le

theorem rampTarget_legal (grow : Bool) : rampTarget grow = 0 ∨ rampTarget grow = 255 := by
  cases grow <;> simp [rampTarget]

/-! ## The effect of each operation -/

theorem recopyUpload_effect {V : Set Voice} (m : Mel) (k : Slot) (s : State) (hV : s.voice (.mel m) ∈ V) :
    Effect (some (.mel m)) V s (recopyUpload m k s) :=
  (Effect.setDirty _ V s k false).trans
    (.emits _ fun c hc => by obtain rfl := List.mem_singleton.mp hc; exact ⟨⟨m, rfl⟩, hV⟩)

theorem waveSel_effect {V : Set Voice} (m : Mel) (s : State) (hV : s.voice (.mel m) ∈ V) :
    Effect (some (.mel m)) V s (waveSel m s) := by
  cases hw : legalIndex (ramWidx (s.ramByte m)) with
  | none => rw [waveSel_illegal hw]; exact .refl _ V s
  | some w =>
    have hindex := Effect.setWaveIndex V s m w
    cases he : (s.chan (.mel m)).enabled with
    | true => rw [waveSel_enabled hw he]; exact hindex
    | false =>
      rw [waveSel_disabled hw he]
      exact hindex.trans (recopyUpload_effect m w (s.setWaveIndex m w) hV)

theorem uploadIfDirty_effect {V : Set Voice} (m : Mel) (s : State) (hV : s.voice (.mel m) ∈ V) :
    Effect (some (.mel m)) V s (uploadIfDirty m s) := by
  rw [uploadIfDirty_eq]
  split
  · exact recopyUpload_effect m _ s hV
  · exact .refl _ V s

theorem armInterval_effect {V : Set Voice} (x : Chan) (b : Byte) (s : State) (hV : s.voice x ∈ V) :
    Effect (some x) V s (armInterval x b s) := by
  rw [armInterval_eq]
  split
  · refine (Effect.setChan V (.of_interval x _ b) fun _ => rfl).trans (.emits _ fun c hc => ?_)
    obtain rfl := List.mem_singleton.mp hc
    exact ⟨⟨intervalDuration_nonneg b, s.env.sample.nonneg⟩, hV⟩
  · exact .refl _ V s

theorem startFromZero_effect {V : Set Voice} (x : Chan) (s : State) (hV : s.voice x ∈ V) :
    Effect (some x) V s (startFromZero x s) := by
  rw [startFromZero_eq]
  exact .emits s (by simpa [Cmd.legal, Cmd.voice] using hV)

theorem stop_effect {V : Set Voice} {x : Chan} {v : Voice} (s : State) (hV : v ∈ V) :
    Effect (some x) V s (s.emits [.stop v]) :=
  .emits s (by simpa [Cmd.legal, Cmd.voice] using hV)

@[simp] theorem armInterval_voice (x y : Chan) (b : Byte) (s : State) : (armInterval x b s).voice y = s.voice y := by
  rw [armInterval_eq]; split <;> simp

theorem enableMelodic_effect {V : Set Voice} (m : Mel) (s : State) (hV : s.voice (.mel m) ∈ V) :
    Effect (some (.mel m)) V s (enableMelodic m s) := by
  cases he : (s.chan (.mel m)).enabled <;> cases hb : intEn (s.intByte (.mel m))
  case false.true =>
    rw [enableMelodic_enable he hb]
    exact (((uploadIfDirty_effect m s hV).trans (armInterval_effect _ _ _ hV)).trans
      (startFromZero_effect _ _ hV)).trans (.setMelodicEnabled V _ m true)
  case true.false =>
    rw [enableMelodic_disable he hb]
    exact (Effect.setMelodicEnabled V s m false).trans (stop_effect _ hV)
  all_goals rw [enableMelodic_stay (he.trans hb.symm)]; exact .refl _ V s

theorem enableNoise_effect {V : Set Voice} (s : State) (hV : s.voice .noise ∈ V) :
    Effect (some .noise) V s (enableNoise s) := by
  cases he : (s.chan .noise).enabled <;> cases hb : intEn (s.intByte .noise)
  case false.true =>
    rw [enableNoise_enable he hb]
    exact ((armInterval_effect .noise _ s hV).trans
      (startFromZero_effect .noise _ (by rwa [armInterval_voice]))).trans (.setNoiseEnabled V _ true)
  case true.false =>
    rw [enableNoise_disable he hb]
    exact (Effect.setNoiseEnabled V s false).trans (stop_effect _ hV)
  all_goals rw [enableNoise_stay (he.trans hb.symm)]; exact .refl _ V s

theorem volPan_effect {V : Set Voice} (x : Chan) (s : State) (hV : s.voice x ∈ V) :
    Effect (some x) V s (volPan x s) := by
  rw [volPan_eq]
  exact (Effect.setChan V (.of_levels x _ _ _ _ _) fun _ => rfl).trans
    (.emits _ (by simpa [Cmd.legal, Cmd.voice] using hV))

@[simp] theorem volPan_voice (x y : Chan) (s : State) : (volPan x s).voice y = s.voice y := by
  rw [volPan_eq]; simp

theorem envelope_effect {V : Set Voice} (x : Chan) (s : State) (hV : s.voice x ∈ V) :
    Effect (some x) V s (envelope x s) := by
  cases he : ev0En (s.ev0Byte x) with
  | false => rw [envelope_closed he]; exact .setChan V (.of_envelopeGate x _ false) fun _ => rfl
  | true =>
    rw [envelope_open he]
    refine (Effect.setChan V (.of_envelope x _ true _ _ _) fun _ => rfl).trans (.emits _ fun c hc => ?_)
    obtain rfl := List.mem_singleton.mp hc
    exact ⟨⟨rampTarget_legal _, rampDuration_nonneg _ _ _⟩, hV⟩

@[simp] theorem envelope_voice (x y : Chan) (s : State) : (envelope x s).voice y = s.voice y := by
  cases he : ev0En (s.ev0Byte x) with
  | false => rw [envelope_closed he]; simp
  | true => rw [envelope_open he]; simp

/-- The volume/pan engine and the envelope engine, in the order of SxEV0 and SxEV1 (43_envelope.md R193, R194). -/
theorem levels_effect {V : Set Voice} (x : Chan) (s : State) (hV : s.voice x ∈ V) :
    Effect (some x) V s (envelope x (volPan x s)) :=
  (volPan_effect x s hV).trans (envelope_effect x _ (by rwa [volPan_voice]))

theorem sweep_effect {V : Set Voice} (s : State) (hV : s.voice .full ∈ V) :
    Effect (some .full) V s (sweep s) := by
  have hgate : Effect (some .full) V s (s.setSweepGate (s.ev1Byte .full)) :=
    .setChan V (.of_sweepGate _ _ _) fun _ => rfl
  cases h : ev1SwpEn (s.ev1Byte .full) && !ev1Mod (s.ev1Byte .full) with
  | false => rw [sweep_quiet h]; exact hgate
  | true =>
    rw [sweep_run h]
    refine hgate.trans (.emits _ fun c hc => ?_)
    obtain rfl := List.mem_singleton.mp hc
    exact ⟨⟨sweepDuration_nonneg _ _, sweepTarget_nonneg _⟩, hV⟩

/-- After a selection the voice of CH6 is the selected one, switched or not (45_noise_select.md R231). -/
theorem noiseSelect_voice (s : State) : (noiseSelect s).voice .noise = .N (ev1Nsel (s.ev1Byte .noise)) := by
  by_cases h : ev1Nsel (s.ev1Byte .noise) = s.blk.nsel.active
  · rw [noiseSelect_same h, voice_noise, h]
  · rw [noiseSelect_switch h]; simp

theorem noiseSelect_effect {V : Set Voice} (s : State) (hold : s.voice .noise ∈ V)
    (hnew : (noiseSelect s).voice .noise ∈ V) : Effect (some .noise) V s (noiseSelect s) := by
  rw [noiseSelect_voice] at hnew
  rw [voice_noise] at hold
  by_cases h : ev1Nsel (s.ev1Byte .noise) = s.blk.nsel.active
  · rw [noiseSelect_same h]; exact .refl _ V s
  · rw [noiseSelect_switch h]
    refine (Effect.setNoiseActive _ V s _).trans (.emits _ ?_)
    cases s.blk.nsel.playing <;> simp [Cmd.legal, Cmd.voice, hold, hnew]

theorem freq_effect {V : Set Voice} (x : Chan) (s : State) (hV : s.voice x ∈ V) :
    Effect (some x) V s (freq x s) := by
  rw [freq_eq]
  have hcode := Channel.Follows.of_frequency x (s.chan x) (freqCode (s.fqhByte x) (s.fqlByte x))
  refine (Effect.setChan V hcode fun _ => rfl).trans (.emits _ fun c hc => ?_)
  obtain rfl := List.mem_singleton.mp hc
  exact ⟨rate_pos x _, hV⟩

theorem stopAll_effect (s : State) : Effect none Set.univ s (stopAll s) := by
  rw [stopAll_eq]
  exact .emits s (by simp [Cmd.legal])

/-! ## The effect of a row -/

@[simp] theorem channelOf_waveOf (k : Slot) (off : Nat) : channelOf (.waveOf k off) = none := by fin_cases k <;> rfl
@[simp] theorem channelOf_intOf (x : Chan) : channelOf (.intOf x) = some x := by
  rcases x with (_ | _ | _ | _ | _) | _ <;> rfl
@[simp] theorem channelOf_lrvOf (x : Chan) : channelOf (.lrvOf x) = some x := by
  rcases x with (_ | _ | _ | _ | _) | _ <;> rfl
@[simp] theorem channelOf_fqlOf (x : Chan) : channelOf (.fqlOf x) = some x := by
  rcases x with (_ | _ | _ | _ | _) | _ <;> rfl
@[simp] theorem channelOf_fqhOf (x : Chan) : channelOf (.fqhOf x) = some x := by
  rcases x with (_ | _ | _ | _ | _) | _ <;> rfl
@[simp] theorem channelOf_ev0Of (x : Chan) : channelOf (.ev0Of x) = some x := by
  rcases x with (_ | _ | _ | _ | _) | _ <;> rfl
@[simp] theorem channelOf_ev1Of (x : Chan) : channelOf (.ev1Of x) = some x := by
  rcases x with (_ | _ | _ | _ | _) | _ <;> rfl
@[simp] theorem channelOf_ramOf (m : Mel) : channelOf (.ramOf m) = some (.mel m) := by cases m <;> rfl

/-- The voices a row may address: its channel's, before or after the row; every voice for SSTOP (10_state.md R35;
47_global.md R260). -/
def rowVoices (i : Instr) (s t : State) : Set Voice :=
  { v | i = .sstop ∨ ∃ x, channelOf i = some x ∧ (v = s.voice x ∨ v = t.voice x) }

/-- A row of channel x whose effect stays within any voices that hold x's, before and after. -/
theorem exec_effect_of_channel {i : Instr} {x : Chan} {s t : State} (h : exec i s = .next t)
    (hx : channelOf i = some x) (he : ∀ V : Set Voice, s.voice x ∈ V → t.voice x ∈ V → Effect (some x) V s t) :
    ∃ t, exec i s = .next t ∧ Effect (channelOf i) (rowVoices i s t) s t :=
  ⟨t, h, hx ▸ he _ (.inr ⟨x, hx, .inl rfl⟩) (.inr ⟨x, hx, .inr rfl⟩)⟩

/-- The voice and level engines after a noise selection address the selected voice (45_noise_select.md R232). -/
theorem noiseRow_effect {V : Set Voice} (s : State) (hold : s.voice .noise ∈ V)
    (hnew : (envelope .noise (volPan .noise (noiseSelect s))).voice .noise ∈ V) :
    Effect (some .noise) V s (envelope .noise (volPan .noise (noiseSelect s))) := by
  rw [envelope_voice, volPan_voice] at hnew
  exact (noiseSelect_effect s hold hnew).trans (levels_effect .noise _ hnew)

/-- The three engines of S5EV1 (44_sweep.md R215). -/
theorem fullRow_effect {V : Set Voice} (s : State) (hV : s.voice .full ∈ V) :
    Effect (some .full) V s (sweep (envelope .full (volPan .full s))) :=
  (levels_effect .full s hV).trans (sweep_effect _ hV)

/-- Every row answers a next state, and its effect is on its channel and that channel's voices alone. -/
theorem exec_effect (i : Instr) (s : State) :
    ∃ t, exec i s = .next t ∧ Effect (channelOf i) (rowVoices i s t) s t := by
  rcases exec_cases i s with ⟨k, off, rfl, h⟩ | ⟨off, rfl, h⟩ | ⟨m, rfl, h⟩ | ⟨m, rfl, h⟩ | ⟨rfl, h⟩ | ⟨x, rfl, h⟩ |
    ⟨x, hi, h⟩ | ⟨rfl, h⟩ | ⟨rfl, h⟩ | ⟨rfl, h⟩ | ⟨x, hi, h⟩ | ⟨rfl, h⟩ | ⟨a, rfl, h⟩
  · exact ⟨_, h, .setDirty _ _ s k true⟩
  · exact ⟨_, h, .markMasked _ _ s _⟩
  · exact exec_effect_of_channel h (channelOf_ramOf m) fun _ hV _ => waveSel_effect m s hV
  · exact exec_effect_of_channel h (channelOf_intOf _) fun _ hV _ => enableMelodic_effect m s hV
  · exact exec_effect_of_channel h (channelOf_intOf _) fun _ hV _ => enableNoise_effect s hV
  · exact exec_effect_of_channel h (channelOf_lrvOf x) fun _ hV _ => volPan_effect x s hV
  · have hx : channelOf i = some x := by rcases hi with rfl | ⟨rfl, _, _⟩ <;> simp
    exact exec_effect_of_channel h hx fun _ hV _ => levels_effect x s hV
  · exact exec_effect_of_channel h (channelOf_ev1Of _) fun _ hV _ => fullRow_effect s hV
  · exact exec_effect_of_channel h (channelOf_ev1Of _) fun _ hold hnew => noiseRow_effect s hold hnew
  · exact exec_effect_of_channel h (x := .full) rfl fun _ hV _ => sweep_effect s hV
  · have hx : channelOf i = some x := by rcases hi with rfl | rfl <;> simp
    exact exec_effect_of_channel h hx fun _ hV _ => freq_effect x s hV
  · exact ⟨_, h, (stopAll_effect s).mono fun _ _ => .inl rfl⟩
  · exact ⟨_, h, .refl _ _ s⟩

/-- The effect of a row that has been run. -/
theorem Effect.of_exec {i : Instr} {s t : State} (h : exec i s = .next t) :
    Effect (channelOf i) (rowVoices i s t) s t := by
  obtain ⟨u, hu, he⟩ := exec_effect i s
  cases hu.symm.trans h
  exact he

end Sys2Proof.Machine

/-! The invariant of 10_state.md R44: reset, rows, host actions, steps. -/

namespace Sys2Proof.Machine

/-- Settles O43, from the reset values of 10_state.md R43. -/
theorem invariantHoldsAtReset : Obligations.InvariantHoldsAtReset := by
  intro cfg ok
  have hch : ∀ x, (State.resetWith cfg ok).chan x = Channel.reset := fun x => by
    rcases x with (_ | _ | _ | _ | _) | _ <;> rfl
  exact
    { noisePlaying := (congrArg Channel.enabled (hch .noise)).symm
      sweepOnlyFull := fun x _ => by rw [hch]; exact ⟨rfl, rfl⟩
      ranges := fun x => by rw [hch]; exact ⟨by decide, by decide, by decide, .inl rfl, .inl rfl⟩
      commands := nofun
      memory := rfl
      inSpace := nofun }

/-- The invariant speaks of the block, the commands and the memory alone: a state with another's block, and with legal
commands and a memory of the invariant's form, has it too. -/
theorem State.Inv.of_blk_eq {s t : State} (hs : s.Inv) (hblk : t.blk = s.blk) (hcommands : ∀ c ∈ t.out, c.legal)
    (hmemory : t.env.bus.wf = true) (hspace : ∀ cell ∈ t.env.bus, cell.1 < 2 ^ t.env.cfg.addrW) : t.Inv := by
  have hch : ∀ x, t.chan x = s.chan x := fun x => by simp only [State.chan, hblk]
  exact
    { noisePlaying := by rw [hblk, hch]; exact hs.noisePlaying
      sweepOnlyFull := fun x hx => by rw [hch]; exact hs.sweepOnlyFull x hx
      ranges := fun x => by rw [hch]; exact hs.ranges x
      commands := hcommands
      memory := hmemory
      inSpace := hspace }

/-- An operation's effect keeps the invariant. -/
theorem Effect.inv {who : Option Chan} {V : Set Voice} {s t : State} (h : Effect who V s t) (hs : s.Inv) : t.Inv where
  noisePlaying := h.playing hs.noisePlaying
  sweepOnlyFull x hx := by
    obtain ⟨hactive, hmodulation⟩ := (h.records x).gate hx
    rw [hactive, hmodulation]
    exact hs.sweepOnlyFull x hx
  ranges x := (h.records x).inRange (hs.ranges x)
  commands c hc := by
    obtain ⟨cs, hcs, hlegal⟩ := h.commands
    rw [hcs] at hc
    exact (List.mem_append.mp hc).elim (hs.commands c) fun hc => (hlegal c hc).1
  memory := h.env ▸ hs.memory
  inSpace := h.env ▸ hs.inSpace

/-- A run of bytes inside the address space is stored; the block, the commands and the configuration stand. -/
theorem State.Inv.of_writeBytes {s t : State} (hs : s.Inv) {a : Nat} {vs : List Byte} (hblk : t.blk = s.blk)
    (hout : t.out = s.out) (hcfg : t.env.cfg = s.env.cfg) (hbus : t.env.bus = s.env.bus.writeBytes a vs)
    (hfits : a + vs.length ≤ 2 ^ s.env.cfg.addrW) : t.Inv := by
  refine hs.of_blk_eq hblk (hout ▸ hs.commands) (hbus ▸ writeBytes_wf a vs hs.memory) fun cell hcell => ?_
  rw [hbus] at hcell
  rw [hcfg]
  rcases mem_writeBytes hcell with hold | ⟨_, hnew⟩
  · exact hs.inSpace cell hold
  · omega

/-- A notification that is not run leaves the state as it is (47_global.md R262). -/
theorem eq_of_accept_quiet {a : Nat} {s t : State} (h : accept a s = .quiet t) : t = s := by
  rcases accept_cases a s with ⟨_, e⟩ | ⟨_, _, e⟩ | ⟨_, _, i, _, e⟩ | ⟨_, _, _, e⟩ <;> rw [e] at h <;> cases h
  rfl

/-- A step that runs no instruction stores at most a run of bytes inside the address space (30_encoding.md R90). -/
theorem fetch_quiet_bus {s t : State} (h : fetch s = .quiet t) :
    ∃ a vs, a + vs.length ≤ 2 ^ s.env.cfg.addrW ∧ t.env.bus = s.env.bus.writeBytes a vs := by
  have hnone : ∀ u : State, u.env.bus = s.env.bus →
      ∃ a vs, a + vs.length ≤ 2 ^ s.env.cfg.addrW ∧ u.env.bus = s.env.bus.writeBytes a vs :=
    fun u hu => ⟨0, [], Nat.zero_le _, hu⟩
  unfold fetch at h
  cases hi : s.env.inbox with
  | nil => rw [hi] at h; cases h; exact hnone s rfl
  | cons act rest =>
    simp only [hi] at h
    cases act <;> simp only [hostAction] at h
    case st a v =>
      split at h
      · next hlt => exact ⟨a, [v], hlt, by rw [eq_of_accept_quiet h]; rfl⟩
      · cases h
    case notify a => rw [eq_of_accept_quiet h]; exact hnone _ rfl
    case poke a v =>
      split at h
      · next hlt => cases h; exact ⟨a, [v], hlt, rfl⟩
      · cases h
    case store a bytes =>
      split at h
      · next hle => cases h; exact ⟨a, bytes, hle, rfl⟩
      · cases h
    case fb f => cases h; exact hnone _ rfl
    case sndEn on => cases h; exact hnone _ rfl
    case shutdown => split at h <;> cases h; exact hnone _ rfl
    case init ok => split at h <;> cases h; exact hnone _ rfl

/-- A step that runs no instruction keeps the invariant; an initialisation gives the block its reset values. -/
theorem fetch_quiet_inv {s t : State} (hs : s.Inv) (h : fetch s = .quiet t) : t.Inv := by
  obtain ⟨hout, hcfg, hblk⟩ := fetch_quiet h
  obtain ⟨a, vs, hfits, hbus⟩ := fetch_quiet_bus h
  rcases hblk with hblk | ⟨ok, _, _, _, hblk⟩
  · exact hs.of_writeBytes hblk hout hcfg hbus hfits
  · have hstored : ({ t with blk := s.blk } : State).Inv := hs.of_writeBytes rfl hout hcfg hbus hfits
    exact (invariantHoldsAtReset t.env.cfg ok).of_blk_eq hblk hstored.commands hstored.memory hstored.inSpace

/-- An accepted notification reaches its row in a state with the invariant. -/
theorem fetch_run_inv {s u : State} {i : Instr} (hs : s.Inv) (h : fetch s = .run i u) : u.Inv := by
  obtain ⟨a, rest, v, hv, _, _, _, rfl⟩ := fetch_run h
  rcases hv with ⟨_, rfl⟩ | ⟨b, _, hlt, rfl⟩
  · exact hs.of_writeBytes (a := 0) (vs := []) rfl rfl rfl rfl (Nat.zero_le _)
  · exact hs.of_writeBytes (a := a) (vs := [b]) rfl rfl rfl rfl hlt

/-- Settles O44: a quiet step by its host action, a notification by the effect of its row. -/
theorem everyStepKeepsTheInvariant : Obligations.EveryStepKeepsTheInvariant := by
  intro s t hs h
  rcases step_cases h with hquiet | ⟨i, u, hrun, hexec⟩
  · exact fetch_quiet_inv hs hquiet
  · exact (Effect.of_exec hexec).inv (fetch_run_inv hs hrun)

end Sys2Proof.Machine

/-! What every row does and leaves: completion, frame, voices and feedback. -/

namespace Sys2Proof.Machine

/-- Settles O14, by the effect of a row. -/
theorem everyInstructionCompletesAndOnlyEmits : Obligations.EveryInstructionCompletesAndOnlyEmits := by
  intro i s
  obtain ⟨t, h, he⟩ := exec_effect i s
  obtain ⟨cs, hcs, hlegal⟩ := he.commands
  refine ⟨t, cs, h, he.env, fun a => ?_, he.failed, hcs, fun c hc => (hlegal c hc).1⟩
  simp only [State.memRead, he.env]

/-- Decoding answers an instruction on every ADDR_W-bit number (30_encoding.md R93). -/
theorem decode_total {cfg : Config} {a : Nat} (h : a < 2 ^ cfg.addrW) : ∃ i, decode cfg a = .ok i := by
  unfold decode
  rw [if_neg (Nat.not_le.mpr h)]
  split
  · exact ⟨_, rfl⟩
  · split
    · exact ⟨_, rfl⟩
    · split <;> exact ⟨_, rfl⟩

/-- A notification of an address that an existing block gets is ignored or run. -/
theorem accept_total {a : Nat} {s : State} (halive : s.env.alive = true) (ha : a < 2 ^ s.env.cfg.addrW) :
    accept a s = .quiet s ∨ ∃ i, accept a s = .run i s.sampleFeedback := by
  obtain ⟨i, hi⟩ := decode_total ha
  cases hg : s.gateOpen with
  | false => exact .inl (accept_gated halive hg)
  | true => exact .inr ⟨i, accept_open halive hg hi⟩

/-- A step that comes down to such a notification answers a next state. -/
theorem step_of_accept {a : Nat} {s u : State} (hf : fetch s = accept a u) (halive : u.env.alive = true)
    (ha : a < 2 ^ u.env.cfg.addrW) : ∃ t, step s = .next t := by
  rcases accept_total halive ha with hq | ⟨i, hr⟩
  · exact ⟨u, step_of_quiet (hf.trans hq)⟩
  · obtain ⟨t, ht, _⟩ := exec_effect i u.sampleFeedback
    exact ⟨t, (step_of_run (hf.trans hr)).trans ht⟩

/-- Settles O13: the fetch is an acceptance, alone or on the memory the CPU has just written. -/
theorem notificationsNeverStopTheMachine : Obligations.NotificationsNeverStopTheMachine := by
  intro s a rest halive ha hin
  rcases hin with hin | ⟨v, hin⟩
  · exact step_of_accept (u := s.setInbox rest) (by simp only [fetch, hin, hostAction]) halive ha
  · refine step_of_accept (a := a) (u := (s.setInbox rest).memWrite a v) ?_ halive ha
    simp only [fetch, hin, hostAction]
    exact if_pos ha

/-- Settles O39, by the effect of a row. -/
theorem onlyTheAddressedChannelIsTouched : Obligations.OnlyTheAddressedChannelIsTouched := by
  intro i s t cs h hcs
  have he := Effect.of_exec h
  have hvoice := he.voice_mem hcs
  refine ⟨fun x hx => ⟨fun y hy => ?_, fun m hm => ?_, fun c hc => ?_⟩,
    fun hx => ⟨fun y => ?_, fun m => ?_, ?_⟩⟩
  · exact he.others y (by rw [hx]; exact fun e => hy (Option.some.inj e).symm)
  · exact he.waveIndexes m (by rw [hx]; exact fun e => hm (Option.some.inj e).symm)
  · rcases hvoice c hc with rfl | ⟨y, hy, hv⟩
    · cases hx
    · cases hx.symm.trans hy; exact hv
  · exact he.others y (by simp [hx])
  · exact he.waveIndexes m (by simp [hx])
  · cases cs with
    | nil => exact .inr rfl
    | cons c cs =>
      rcases hvoice c List.mem_cons_self with hstop | ⟨y, hy, _⟩
      · exact .inl hstop
      · cases hx.symm.trans hy

/-- Settles O8: both answers are the definition's two branches. -/
theorem feedbackIsSampledOnce : Obligations.FeedbackIsSampledOnce := by
  intro s
  refine ⟨fun f hf => ?_, fun hnone => ?_⟩
  · have hanswer : s.answer = f := by simp only [State.answer, hf]
    simp only [State.sampleFeedback, hanswer]
  · have hvol : s.answer.vol = Config.freeVol s.env.draws := by simp only [State.answer, hnone]
    have hfreq : s.answer.freq = (Config.freeFreq s.env.draws : Rat) := by simp only [State.answer, hnone]
    exact ⟨hvol, hfreq, rfl, rfl⟩

/-! ## Another feedback sample

The operations that read no sample commute with its replacement; the interval unit does when the frequency agrees, the
envelope when the volume does (00_scope.md R10). -/

theorem waveSel_withSample (m : Mel) (s : State) (f : Feedback) :
    waveSel m (s.withSample f) = (waveSel m s).withSample f := by
  cases hw : legalIndex (ramWidx (s.ramByte m)) with
  | none => rw [waveSel_illegal hw, waveSel_illegal (s := s.withSample f) hw]
  | some w =>
    cases he : (s.chan (.mel m)).enabled with
    | true => rw [waveSel_enabled hw he, waveSel_enabled (s := s.withSample f) hw he]; rfl
    | false => rw [waveSel_disabled hw he, waveSel_disabled (s := s.withSample f) hw he]; rfl

theorem uploadIfDirty_withSample (m : Mel) (s : State) (f : Feedback) :
    uploadIfDirty m (s.withSample f) = (uploadIfDirty m s).withSample f := by
  have hdirty : (s.withSample f).dirty ((s.withSample f).waveIndex m) = s.dirty (s.waveIndex m) := rfl
  rw [uploadIfDirty_eq, uploadIfDirty_eq, hdirty]
  split <;> rfl

theorem armInterval_withSample (x : Chan) (b : Byte) {s : State} {f : Feedback} (hf : f.freq = s.env.sample.freq) :
    armInterval x b (s.withSample f) = (armInterval x b s).withSample f := by
  simp only [armInterval_eq]
  split
  · rw [← hf]; rfl
  · rfl

theorem enableMelodic_withSample (m : Mel) {s : State} {f : Feedback} (hf : f.freq = s.env.sample.freq) :
    enableMelodic m (s.withSample f) = (enableMelodic m s).withSample f := by
  cases he : (s.chan (.mel m)).enabled <;> cases hb : intEn (s.intByte (.mel m))
  case false.true =>
    have hsample : f.freq = (uploadIfDirty m s).env.sample.freq := by
      rw [(uploadIfDirty_effect (V := Set.univ) m s trivial).env, hf]
    rw [enableMelodic_enable he hb, enableMelodic_enable (s := s.withSample f) he hb, uploadIfDirty_withSample,
      armInterval_withSample _ _ hsample]
    rfl
  case true.false =>
    rw [enableMelodic_disable he hb, enableMelodic_disable (s := s.withSample f) he hb]; rfl
  all_goals
    rw [enableMelodic_stay (he.trans hb.symm), enableMelodic_stay (s := s.withSample f) (he.trans hb.symm)]

theorem enableNoise_withSample {s : State} {f : Feedback} (hf : f.freq = s.env.sample.freq) :
    enableNoise (s.withSample f) = (enableNoise s).withSample f := by
  cases he : (s.chan .noise).enabled <;> cases hb : intEn (s.intByte .noise)
  case false.true =>
    rw [enableNoise_enable he hb, enableNoise_enable (s := s.withSample f) he hb, armInterval_withSample _ _ hf]
    rfl
  case true.false =>
    rw [enableNoise_disable he hb, enableNoise_disable (s := s.withSample f) he hb]; rfl
  all_goals
    rw [enableNoise_stay (he.trans hb.symm), enableNoise_stay (s := s.withSample f) (he.trans hb.symm)]

theorem volPan_withSample (x : Chan) (s : State) (f : Feedback) :
    volPan x (s.withSample f) = (volPan x s).withSample f := rfl

theorem envelope_withSample (x : Chan) {s : State} {f : Feedback} (hf : f.vol = s.env.sample.vol) :
    envelope x (s.withSample f) = (envelope x s).withSample f := by
  cases he : ev0En (s.ev0Byte x) with
  | false => rw [envelope_closed he, envelope_closed (s := s.withSample f) he]; rfl
  | true => rw [envelope_open he, envelope_open (s := s.withSample f) he, ← hf]; rfl

theorem levels_withSample (x : Chan) {s : State} {f : Feedback} (hf : f.vol = s.env.sample.vol) :
    envelope x (volPan x (s.withSample f)) = (envelope x (volPan x s)).withSample f := by
  rw [volPan_withSample, envelope_withSample x (s := volPan x s) hf]

theorem sweep_withSample (s : State) (f : Feedback) : sweep (s.withSample f) = (sweep s).withSample f := by
  cases h : ev1SwpEn (s.ev1Byte .full) && !ev1Mod (s.ev1Byte .full) with
  | false => rw [sweep_quiet h, sweep_quiet (s := s.withSample f) h]; rfl
  | true => rw [sweep_run h, sweep_run (s := s.withSample f) h]; rfl

theorem noiseSelect_withSample (s : State) (f : Feedback) :
    noiseSelect (s.withSample f) = (noiseSelect s).withSample f := by
  by_cases h : ev1Nsel (s.ev1Byte .noise) = s.blk.nsel.active
  · rw [noiseSelect_same h, noiseSelect_same (s := s.withSample f) h]
  · rw [noiseSelect_switch h, noiseSelect_switch (s := s.withSample f) h]; rfl

/-- Settles O41, row family by row family. -/
theorem feedbackReachesOnlyItsTwoUses : Obligations.FeedbackReachesOnlyItsTwoUses := by
  intro i s t f h hfreq hvol
  rcases exec_cases i s with ⟨k, off, rfl, h'⟩ | ⟨off, rfl, h'⟩ | ⟨m, rfl, h'⟩ | ⟨m, rfl, h'⟩ | ⟨rfl, h'⟩ |
    ⟨x, rfl, h'⟩ | ⟨x, hi, h'⟩ | ⟨rfl, h'⟩ | ⟨rfl, h'⟩ | ⟨rfl, h'⟩ | ⟨x, hi, h'⟩ | ⟨rfl, h'⟩ | ⟨a, rfl, h'⟩ <;>
    cases h'.symm.trans h
  · rw [exec_waveOf]; rfl
  · rfl
  · rw [exec_ramOf, waveSel_withSample]
  · rw [exec_intOf_mel, enableMelodic_withSample m (hfreq _ rfl)]
  · rw [exec_intOf_noise, enableNoise_withSample (hfreq _ rfl)]
  · rw [exec_lrvOf, volPan_withSample]
  · rcases hi with rfl | ⟨rfl, hfull, hnoise⟩
    · rw [exec_ev0Of, levels_withSample x (hvol x (.inl rfl))]
    · obtain ⟨m, rfl⟩ : ∃ m, x = .mel m := by
        cases x with
        | mel m => exact ⟨m, rfl⟩
        | noise => exact absurd rfl hnoise
      have hm : m ≠ .ch5 := fun e => hfull (congrArg Chan.mel e)
      rw [exec_ev1Of_mel hm, levels_withSample _ (hvol _ (.inr rfl))]
  · rw [exec_ev1Of_full, levels_withSample _ (hvol _ (.inr rfl)), sweep_withSample]
  · have hsample : f.vol = (noiseSelect s).env.sample.vol := by
      rw [(noiseSelect_effect (V := Set.univ) s trivial trivial).env, hvol _ (.inr rfl)]
    rw [exec_ev1Of_noise, noiseSelect_withSample, levels_withSample _ hsample]
  · exact congrArg Host.Outcome.next (sweep_withSample s f)
  · rcases hi with rfl | rfl
    · rw [exec_fqlOf]; rfl
    · rw [exec_fqhOf]; rfl
  · rfl
  · rfl

end Sys2Proof.Machine

/-! Numbers: the derivation ranges of 00_scope.md R7 and the default map of 20_memory.md R65. -/

namespace Sys2Proof.Machine

/-- A duration of `n` ticks of 1/84000 DU lies within a bound if the ticks do. -/
theorem ticks_bounds {q bound : Rat} {n : Nat} (h : q * 84000 = n) (hn : (n : Rat) ≤ bound * 84000) :
    0 ≤ q ∧ q ≤ bound ∧ ∃ n : Nat, q * 84000 = n := by
  have hpos : (0 : Rat) ≤ n := n.cast_nonneg
  exact ⟨by linarith, by linarith, n, h⟩

/-- 3.84 DU is 322560 ticks. -/
theorem intervalDuration_ticks (b : Byte) :
    intervalDuration b * 84000 = (322560 * (b.toNat % 32 + 1) : Nat) := by
  rw [intervalDuration_eq]; push_cast; ring

theorem div16_ticks (floor : Bool) {d : Nat} (h : d ≤ 255) :
    ∃ k ≤ 255, div16 floor d * 16 = (k : Nat) := by
  cases floor with
  | true => exact ⟨d / 16 * 16, by omega, by simp [div16]⟩
  | false => exact ⟨d, h, by simp [div16]⟩

/-- 15.36 / 16 DU is 80640 ticks; the distance is at most 255. -/
theorem rampDuration_ticks (floor : Bool) (b : Byte) (v : Fin 256) :
    ∃ k ≤ 255, rampDuration floor b v * 84000 = (80640 * (b.toNat % 8 + 1) * k : Nat) := by
  have hdistance : rampDistance (ev1Grow b) v ≤ 255 := by unfold rampDistance; split <;> omega
  obtain ⟨k, hk, hq⟩ := div16_ticks floor hdistance
  refine ⟨k, hk, ?_⟩
  unfold rampDuration
  rw [envelopeStep_eq]
  push_cast
  rw [← hq]
  ring

/-- Every divisor s + 1 of the sweep divides 840 (44_sweep.md R213). -/
theorem sweepDivisor_dvd (w : Byte) : (swpCount w).toNat + 1 ∣ 840 := by
  have hlt := (swpCount w).isLt
  interval_cases (swpCount w).toNat <;> decide

/-- 0.96 DU is 840 times 96 ticks, 7.68 DU is 840 times 768. -/
theorem sweepInterval_ticks (w : Byte) :
    ∃ k ≤ 5376, sweepInterval w * 84000 = (840 * k : Nat) := by
  have hbase := (swpBase w).isLt
  unfold sweepInterval kSwpSlow kSwpFast
  cases swpShift w with
  | true => exact ⟨768 * (swpBase w).toNat, by omega, by simp only [if_true]; push_cast; ring⟩
  | false => exact ⟨96 * (swpBase w).toNat, by omega, by simp only [Bool.false_eq_true, if_false]; push_cast; ring⟩

theorem sweepDuration_ticks (w : Byte) (f : Fin 2048) :
    ∃ n ≤ 2047 * (840 * 5376), sweepDuration w f * 84000 = (n : Nat) := by
  obtain ⟨k, hk, hinterval⟩ := sweepInterval_ticks w
  obtain ⟨q, hq⟩ := sweepDivisor_dvd w
  have hdistance : sweepDistance (swpDir w) f ≤ 2047 := by unfold sweepDistance; split <;> omega
  have hq840 : q ≤ 840 := Nat.le_of_dvd (by decide) ⟨_, by rw [hq, Nat.mul_comm]⟩
  refine ⟨sweepDistance (swpDir w) f * (q * k), by gcongr, ?_⟩
  have hdivisor : (((swpCount w).toNat + 1 : Nat) : Rat) ≠ 0 := by positivity
  calc sweepDuration w f * 84000
      = sweepDistance (swpDir w) f * (sweepInterval w * 84000) / ((swpCount w).toNat + 1 : Nat) := by
        unfold sweepDuration; ring
    _ = ((sweepDistance (swpDir w) f * (q * k) : Nat) : Rat) := by
        rw [hinterval, hq, div_eq_iff hdivisor]; push_cast; ring

/-- Settles O37, by counting each duration in ticks of 1/84000 DU. -/
theorem durationsAreBoundedMultiples : Obligations.DurationsAreBoundedMultiples := by
  refine ⟨fun b => ?_, fun fl b v => ?_, fun b f => ?_⟩
  · have hticks := intervalDuration_ticks b
    have hle : 322560 * (b.toNat % 32 + 1) ≤ 10321920 := by omega
    have hbound : ((322560 * (b.toNat % 32 + 1) : Nat) : Rat) ≤ 3072 / 25 * 84000 :=
      (Nat.cast_le.mpr hle).trans (by norm_num)
    exact ⟨by rw [intervalDuration_eq]; positivity, (ticks_bounds hticks hbound).2⟩
  · obtain ⟨k, hk, hticks⟩ := rampDuration_ticks fl b v
    have hle : 80640 * (b.toNat % 8 + 1) * k ≤ 80640 * 8 * 255 := by gcongr; omega
    exact ticks_bounds hticks ((Nat.cast_le.mpr hle).trans (by norm_num))
  · obtain ⟨n, hn, hticks⟩ := sweepDuration_ticks b f
    exact ticks_bounds hticks ((Nat.cast_le.mpr hn).trans (by norm_num))

/-- Settles O6, register row by register row. -/
theorem defaultMapIsAllowedAndRegular : Obligations.DefaultMapIsAllowedAndRegular := by
  refine ⟨by decide, fun x => ?_, fun x => ?_, fun k i => ?_, rfl, rfl⟩
  · rcases x with (_ | _ | _ | _ | _) | _ <;> decide
  · cases x <;> decide
  · have hslot : AddrMap.default.aWave k = 0x01000000 + 0x80 * k.val := by fin_cases k <;> rfl
    show AddrMap.default.aWave k + 4 * i.val = _
    rw [hslot]

end Sys2Proof.Machine

/-! Shadow fields (10_state.md R34): states that agree but for them stay so through every operation, row and step. -/

namespace Sys2Proof.Machine

/-! ## Two agreeing states -/

/-- The same machine with another table of channel records. -/
def State.withChannels (s : State) (ch : Vector Channel 6) : State := { s with blk := { s.blk with ch := ch } }

namespace State.Agrees

/-- A state that agrees with `s` is `s` with other channel records, so whatever reads no record is the same in both. -/
theorem exists_withChannels {s t : State} (h : s.Agrees t) : ∃ ch, t = s.withChannels ch := by
  obtain ⟨⟨ch, waveIndex, dirty, nsel, failed⟩, out, env⟩ := s
  obtain ⟨⟨ch', waveIndex', dirty', nsel', failed'⟩, out', env'⟩ := t
  obtain ⟨-, -, rfl, rfl, rfl, rfl, rfl, rfl⟩ := h
  exact ⟨ch', rfl⟩

theorem refl (s : State) : s.Agrees s := ⟨fun _ => rfl, rfl, rfl, rfl, rfl, rfl, rfl, rfl⟩

/-- The same commands are appended. -/
theorem emits {s t : State} (h : s.Agrees t) (cs : List Cmd) : (s.emits cs).Agrees (t.emits cs) :=
  { h with out := congrArg (· ++ cs) h.out }

/-- The same change is made to the surroundings. -/
theorem mapEnv {s t : State} (h : s.Agrees t) (f : Env → Env) :
    ({ s with env := f s.env } : State).Agrees { t with env := f t.env } :=
  { h with env := congrArg f h.env }

theorem setDirty {s t : State} (h : s.Agrees t) (k : Slot) (b : Bool) : (s.setDirty k b).Agrees (t.setDirty k b) :=
  { h with dirty := congrArg (·.set k b) h.dirty }

theorem setWaveIndex {s t : State} (h : s.Agrees t) (m : Mel) (k : Slot) :
    (s.setWaveIndex m k).Agrees (t.setWaveIndex m k) :=
  { h with waveIndex := congrArg (·.set m.ix k) h.waveIndex }

theorem setPlaying {s t : State} (h : s.Agrees t) (b : Bool) : (s.setPlaying b).Agrees (t.setPlaying b) :=
  { h with nsel := congrArg (fun n : NoiseSel => { n with playing := b }) h.nsel }

theorem setNoiseActive {s t : State} (h : s.Agrees t) (n : NoiseIx) :
    (s.setNoiseActive n).Agrees (t.setNoiseActive n) :=
  { h with nsel := congrArg (fun sel : NoiseSel => { sel with active := n }) h.nsel }

/-- A record is replaced on both sides: only `enabled`, and the frequency code of CH5, must be equal. -/
theorem setChan {s t : State} (h : s.Agrees t) {x : Chan} {c d : Channel} (henabled : c.enabled = d.enabled)
    (hfrequency : x = .full → c.frequencyReg = d.frequencyReg) : (s.setChan x c).Agrees (t.setChan x d) :=
  { h with
    enabled := fun y => by
      rw [chan_setChan, chan_setChan]
      split
      · exact henabled
      · exact h.enabled y
    fullFrequency := by
      rw [chan_setChan, chan_setChan]
      split
      · next hx => exact hfrequency hx.symm
      · exact h.fullFrequency }

/-- Fields other than `enabled` and the frequency code are written: the two sides may write different values. -/
theorem setShadow {s t : State} (h : s.Agrees t) {x : Chan} {c d : Channel} (hc : c.enabled = (s.chan x).enabled)
    (hd : d.enabled = (t.chan x).enabled) (hcf : c.frequencyReg = (s.chan x).frequencyReg)
    (hdf : d.frequencyReg = (t.chan x).frequencyReg) : (s.setChan x c).Agrees (t.setChan x d) :=
  h.setChan (hc.trans ((h.enabled x).trans hd.symm)) fun hx => by
    subst hx; exact hcf.trans (h.fullFrequency.trans hdf.symm)

theorem setEnabled {s t : State} (h : s.Agrees t) (x : Chan) (b : Bool) :
    (s.setEnabled x b).Agrees (t.setEnabled x b) :=
  h.setChan rfl fun hx => by subst hx; exact h.fullFrequency

/-! ## Each operation -/

theorem markDirtyMod {s t : State} (h : s.Agrees t) : (markDirtyMod s).Agrees (markDirtyMod t) := by
  obtain ⟨ch, rfl⟩ := h.exists_withChannels
  exact { h with dirty := rfl }

theorem waveSel {s t : State} (h : s.Agrees t) (m : Mel) : (waveSel m s).Agrees (waveSel m t) := by
  have henabled := h.enabled (.mel m)
  obtain ⟨ch, rfl⟩ := h.exists_withChannels
  cases hw : legalIndex (ramWidx (s.ramByte m)) with
  | none => rw [waveSel_illegal hw, waveSel_illegal (s := s.withChannels ch) hw]; exact h
  | some w =>
    have hindex := h.setWaveIndex m w
    cases he : (s.chan (.mel m)).enabled with
    | true =>
      rw [waveSel_enabled hw he, waveSel_enabled (s := s.withChannels ch) hw (henabled ▸ he)]
      exact hindex
    | false =>
      rw [waveSel_disabled hw he, waveSel_disabled (s := s.withChannels ch) hw (henabled ▸ he)]
      exact (hindex.setDirty w false).emits _

theorem uploadIfDirty {s t : State} (h : s.Agrees t) (m : Mel) : (uploadIfDirty m s).Agrees (uploadIfDirty m t) := by
  obtain ⟨ch, rfl⟩ := h.exists_withChannels
  have hdirty : (s.withChannels ch).dirty ((s.withChannels ch).waveIndex m) = s.dirty (s.waveIndex m) := rfl
  rw [uploadIfDirty_eq, uploadIfDirty_eq, hdirty]
  split
  · exact (h.setDirty _ false).emits _
  · exact h

theorem armInterval {s t : State} (h : s.Agrees t) (x : Chan) (b : Byte) :
    (armInterval x b s).Agrees (armInterval x b t) := by
  obtain ⟨ch, rfl⟩ := h.exists_withChannels
  rw [armInterval_eq, armInterval_eq]
  split
  · refine emits (setShadow h ?_ ?_ ?_ ?_) _ <;> rfl
  · exact h

theorem startFromZero {s t : State} (h : s.Agrees t) (x : Chan) : (startFromZero x s).Agrees (startFromZero x t) := by
  obtain ⟨ch, rfl⟩ := h.exists_withChannels
  rw [startFromZero_eq, startFromZero_eq]
  exact h.emits _

theorem enableMelodic {s t : State} (h : s.Agrees t) (m : Mel) : (enableMelodic m s).Agrees (enableMelodic m t) := by
  have henabled := h.enabled (.mel m)
  obtain ⟨ch, rfl⟩ := h.exists_withChannels
  cases he : (s.chan (.mel m)).enabled <;> cases hb : intEn (s.intByte (.mel m))
  case false.true =>
    rw [enableMelodic_enable he hb, enableMelodic_enable (s := s.withChannels ch) (henabled ▸ he) hb]
    exact (((h.uploadIfDirty m).armInterval _ _).startFromZero _).setEnabled _ true
  case true.false =>
    rw [enableMelodic_disable he hb, enableMelodic_disable (s := s.withChannels ch) (henabled ▸ he) hb]
    exact (h.setEnabled _ false).emits _
  all_goals
    have hstay := he.trans hb.symm
    rw [enableMelodic_stay hstay, enableMelodic_stay (s := s.withChannels ch) (henabled.symm.trans hstay)]
    exact h

theorem enableNoise {s t : State} (h : s.Agrees t) : (enableNoise s).Agrees (enableNoise t) := by
  have henabled := h.enabled .noise
  obtain ⟨ch, rfl⟩ := h.exists_withChannels
  cases he : (s.chan .noise).enabled <;> cases hb : intEn (s.intByte .noise)
  case false.true =>
    rw [enableNoise_enable he hb, enableNoise_enable (s := s.withChannels ch) (henabled ▸ he) hb]
    exact (((h.armInterval _ _).startFromZero _).setEnabled _ true).setPlaying true
  case true.false =>
    rw [enableNoise_disable he hb, enableNoise_disable (s := s.withChannels ch) (henabled ▸ he) hb]
    exact ((h.setEnabled _ false).setPlaying false).emits _
  all_goals
    have hstay := he.trans hb.symm
    rw [enableNoise_stay hstay, enableNoise_stay (s := s.withChannels ch) (henabled.symm.trans hstay)]
    exact h

theorem volPan {s t : State} (h : s.Agrees t) (x : Chan) : (volPan x s).Agrees (volPan x t) := by
  obtain ⟨ch, rfl⟩ := h.exists_withChannels
  rw [volPan_eq, volPan_eq]
  refine emits (setShadow h ?_ ?_ ?_ ?_) _ <;> rfl

theorem envelope {s t : State} (h : s.Agrees t) (x : Chan) : (envelope x s).Agrees (envelope x t) := by
  obtain ⟨ch, rfl⟩ := h.exists_withChannels
  cases he : ev0En (s.ev0Byte x) with
  | false =>
    rw [envelope_closed he, envelope_closed (s := s.withChannels ch) he]
    exact h.setShadow rfl rfl rfl rfl
  | true =>
    rw [envelope_open he, envelope_open (s := s.withChannels ch) he]
    refine emits (setShadow h ?_ ?_ ?_ ?_) _ <;> rfl

/-- The one frequency code that is read back is CH5's (44_sweep.md R213). -/
theorem sweep {s t : State} (h : s.Agrees t) : (sweep s).Agrees (sweep t) := by
  have hcode := h.fullFrequency
  obtain ⟨ch, rfl⟩ := h.exists_withChannels
  have hgate : (s.setSweepGate (s.ev1Byte .full)).Agrees ((s.withChannels ch).setSweepGate (s.ev1Byte .full)) :=
    h.setShadow rfl rfl rfl rfl
  cases hrun : ev1SwpEn (s.ev1Byte .full) && !ev1Mod (s.ev1Byte .full) with
  | false => rw [sweep_quiet hrun, sweep_quiet (s := s.withChannels ch) hrun]; exact hgate
  | true =>
    rw [sweep_run hrun, sweep_run (s := s.withChannels ch) hrun, hcode]
    exact hgate.emits _

theorem noiseSelect {s t : State} (h : s.Agrees t) : (noiseSelect s).Agrees (noiseSelect t) := by
  obtain ⟨ch, rfl⟩ := h.exists_withChannels
  by_cases hn : ev1Nsel (s.ev1Byte .noise) = s.blk.nsel.active
  · rw [noiseSelect_same hn, noiseSelect_same (s := s.withChannels ch) hn]; exact h
  · rw [noiseSelect_switch hn, noiseSelect_switch (s := s.withChannels ch) hn]
    exact (h.setNoiseActive _).emits _

/-- The code is assembled from memory, so both sides store the same one (46_frequency.md R245). -/
theorem freq {s t : State} (h : s.Agrees t) (x : Chan) : (freq x s).Agrees (freq x t) := by
  have henabled := h.enabled x
  obtain ⟨ch, rfl⟩ := h.exists_withChannels
  rw [freq_eq, freq_eq]
  refine emits (setChan h ?_ fun _ => ?_) _
  · exact henabled
  · rfl

theorem stopAll {s t : State} (h : s.Agrees t) : (stopAll s).Agrees (stopAll t) := by
  rw [stopAll_eq, stopAll_eq, ← h.nsel]
  exact h.emits _

end State.Agrees

/-! ## Rows, notifications and steps -/

/-- Two outcomes of the same kind: next states that agree, or the same stop. -/
inductive OutcomesAgree : Host.Outcome State Fault Refusal → Host.Outcome State Fault Refusal → Prop
  | next {t u : State} (h : t.Agrees u) : OutcomesAgree (.next t) (.next u)
  | fault (f : Fault) : OutcomesAgree (.fault f) (.fault f)
  | refused (r : Refusal) : OutcomesAgree (.refused r) (.refused r)

/-- Two readings of the next host action of the same kind: the same instruction or none, over states that agree, or the
same stop. -/
inductive FetchesAgree : Fetch → Fetch → Prop
  | quiet {t u : State} (h : t.Agrees u) : FetchesAgree (.quiet t) (.quiet u)
  | run (i : Instr) {t u : State} (h : t.Agrees u) : FetchesAgree (.run i t) (.run i u)
  | fault (f : Fault) : FetchesAgree (.fault f) (.fault f)
  | refused (r : Refusal) : FetchesAgree (.refused r) (.refused r)

/-- A row runs alike, row family by row family. -/
theorem exec_agrees (i : Instr) {s t : State} (h : s.Agrees t) : OutcomesAgree (exec i s) (exec i t) := by
  rcases exec_cases i s with ⟨k, off, rfl, -⟩ | ⟨off, rfl, -⟩ | ⟨m, rfl, -⟩ | ⟨m, rfl, -⟩ | ⟨rfl, -⟩ | ⟨x, rfl, -⟩ |
    ⟨x, hi, -⟩ | ⟨rfl, -⟩ | ⟨rfl, -⟩ | ⟨rfl, -⟩ | ⟨x, hi, -⟩ | ⟨rfl, -⟩ | ⟨a, rfl, -⟩
  · rw [exec_waveOf, exec_waveOf]; exact .next (h.setDirty k true)
  · exact .next h.markDirtyMod
  · rw [exec_ramOf, exec_ramOf]; exact .next (h.waveSel m)
  · rw [exec_intOf_mel, exec_intOf_mel]; exact .next (h.enableMelodic m)
  · exact .next h.enableNoise
  · rw [exec_lrvOf, exec_lrvOf]; exact .next (h.volPan x)
  · rcases hi with rfl | ⟨rfl, hfull, hnoise⟩
    · rw [exec_ev0Of, exec_ev0Of]; exact .next ((h.volPan x).envelope x)
    · cases x with
      | mel m =>
        have hm : m ≠ .ch5 := fun e => hfull (congrArg Chan.mel e)
        rw [exec_ev1Of_mel hm, exec_ev1Of_mel hm]; exact .next ((h.volPan _).envelope _)
      | noise => exact absurd rfl hnoise
  · exact .next ((h.volPan .full).envelope .full).sweep
  · exact .next ((h.noiseSelect.volPan .noise).envelope .noise)
  · exact .next h.sweep
  · rcases hi with rfl | rfl
    · rw [exec_fqlOf, exec_fqlOf]; exact .next (h.freq x)
    · rw [exec_fqhOf, exec_fqhOf]; exact .next (h.freq x)
  · exact .next h.stopAll
  · exact .next h

/-- A notification is taken alike: life, gate and decode read no channel record. -/
theorem accept_agrees (a : Nat) {s t : State} (h : s.Agrees t) : FetchesAgree (accept a s) (accept a t) := by
  obtain ⟨ch, rfl⟩ := h.exists_withChannels
  have hgate : (s.withChannels ch).gateOpen = s.gateOpen := rfl
  have henv : (s.withChannels ch).env = s.env := rfl
  simp only [accept, hgate, henv]
  split
  · exact .refused _
  · split
    · exact .quiet h
    · split
      · exact .run _ (h.mapEnv fun e => { e with sample := s.answer, draws := e.draws + 1 })
      · exact .refused _

/-- A host action acts alike; an initialisation makes the two blocks equal. -/
theorem hostAction_agrees (act : HostAction) {s t : State} (h : s.Agrees t) :
    FetchesAgree (hostAction act s) (hostAction act t) := by
  cases act <;> simp only [hostAction, ← h.env]
  case st a v =>
    split
    · exact accept_agrees a (h.mapEnv fun e => { e with bus := e.bus.write a v })
    · exact .fault _
  case notify a => exact accept_agrees a h
  case poke a v =>
    split
    · exact .quiet (h.mapEnv fun e => { e with bus := e.bus.write a v })
    · exact .fault _
  case store a bytes =>
    split
    · exact .quiet (h.mapEnv fun e => { e with
        bus := e.bus.writeBytes a bytes
        inbox := owedNotifications e.cfg.map a bytes.length ++ e.inbox })
    · exact .fault _
  case fb f => exact .quiet { h with env := rfl }
  case sndEn on => exact .quiet { h with env := rfl }
  case shutdown =>
    split
    · exact .quiet (h.mapEnv fun e => { e with alive := false })
    · exact .refused _
  case init ok =>
    split
    · exact .refused _
    · have heq : t.initialise ok = s.initialise ok := by simp only [State.initialise, h.out, h.env]
      rw [heq]
      exact .quiet (.refl _)

theorem fetch_agrees {s t : State} (h : s.Agrees t) : FetchesAgree (fetch s) (fetch t) := by
  unfold fetch
  rw [← h.env]
  cases s.env.inbox with
  | nil => exact .quiet h
  | cons act rest => exact hostAction_agrees act (h.mapEnv fun e => { e with inbox := rest })

/-- A step runs alike. -/
theorem step_agrees {s t : State} (h : s.Agrees t) : OutcomesAgree (step s) (step t) := by
  have hfetch := fetch_agrees h
  unfold step
  generalize fetch s = f, fetch t = g at hfetch
  cases hfetch with
  | quiet h => exact .next h
  | run i h => exact exec_agrees i h
  | fault f => exact .fault f
  | refused r => exact .refused r

/-- Settles O42, by carrying the agreement through fetch and row. -/
theorem shadowFieldsNeverReachTheOutput : Obligations.ShadowFieldsNeverReachTheOutput := by
  intro s t h
  have hstep := step_agrees h
  generalize step s = p, step t = q at hstep
  cases hstep with
  | next h => exact ⟨fun u hu => by cases hu; exact ⟨_, rfl, h⟩, nofun, nofun⟩
  | fault f => exact ⟨nofun, fun _ => id, nofun⟩
  | refused r => exact ⟨nofun, nofun, fun _ => id⟩

end Sys2Proof.Machine

/-! Which row writes which field of the block (10_state.md R22 to R33, R36), said once for all fields. -/

namespace Sys2Proof.Machine

/-! ## Fields and writes -/

/-- A part of a channel record that some row writes alone. -/
inductive RecordPart where
  | enabled | frequency | levels | envelope | interval | sweepGate

/-- Two records have this part in common. -/
def RecordPart.Same : RecordPart → Channel → Channel → Prop
  | .enabled, c, d => d.enabled = c.enabled
  | .frequency, c, d => d.frequencyReg = c.frequencyReg
  | .levels, c, d => d.volume = c.volume ∧ d.pan = c.pan
  | .envelope, c, d => d.envelope = c.envelope
  | .interval, c, d => d.sweep.intervalTime = c.sweep.intervalTime
  | .sweepGate, c, d => d.sweep.active = c.sweep.active ∧ d.sweep.isModulation = c.sweep.isModulation

theorem RecordPart.same_refl (p : RecordPart) (c : Channel) : p.Same c c := by cases p <;> simp [RecordPart.Same]

theorem RecordPart.Same.trans {p : RecordPart} {c d e : Channel} (h : p.Same c d) (k : p.Same d e) : p.Same c e := by
  cases p
  case levels | sweepGate => exact ⟨k.1.trans h.1, k.2.trans h.2⟩
  all_goals exact Eq.trans k h

/-- A field of the block (10_state.md R20); `failed` is left out, since no row writes it (R36). -/
inductive BlockField where
  | chan (x : Chan) (p : RecordPart)
  | waveIndex (m : Mel)
  | dirty (k : Slot)
  | noiseActive
  | noisePlaying

/-- Two states have this field in common. -/
def BlockField.Same : BlockField → State → State → Prop
  | .chan x p, s, t => p.Same (s.chan x) (t.chan x)
  | .waveIndex m, s, t => t.waveIndex m = s.waveIndex m
  | .dirty k, s, t => t.dirty k = s.dirty k
  | .noiseActive, s, t => t.blk.nsel.active = s.blk.nsel.active
  | .noisePlaying, s, t => t.blk.nsel.playing = s.blk.nsel.playing

theorem BlockField.same_refl (f : BlockField) (s : State) : f.Same s s := by
  cases f
  case chan x p => exact p.same_refl _
  all_goals rfl

theorem BlockField.Same.trans {f : BlockField} {s t u : State} (h : f.Same s t) (k : f.Same t u) : f.Same s u := by
  cases f
  case chan x p => exact RecordPart.Same.trans h k
  all_goals exact Eq.trans k h

/-- From `s` to `t` only fields in `W` are written. -/
def Writes (W : Set BlockField) (s t : State) : Prop := ∀ f, f ∉ W → f.Same s t

namespace Writes

theorem refl (W : Set BlockField) (s : State) : Writes W s s := fun f _ => f.same_refl s

theorem trans {W : Set BlockField} {s t u : State} (h : Writes W s t) (k : Writes W t u) : Writes W s u :=
  fun f hf => (h f hf).trans (k f hf)

theorem emits (W : Set BlockField) (s : State) (cs : List Cmd) : Writes W s (s.emits cs) := by
  intro f _
  cases f
  case chan => exact RecordPart.same_refl _ _
  all_goals rfl

theorem setDirty {W : Set BlockField} {s : State} {k : Slot} (hk : .dirty k ∈ W) (b : Bool) :
    Writes W s (s.setDirty k b) := by
  intro f hf
  cases f
  case chan x p => exact p.same_refl _
  case dirty j => exact (dirty_setDirty s k j b).trans (if_neg fun h : j = k => hf (h ▸ hk))
  all_goals rfl

theorem setWaveIndex {W : Set BlockField} {s : State} {m : Mel} (hm : .waveIndex m ∈ W) (k : Slot) :
    Writes W s (s.setWaveIndex m k) := by
  intro f hf
  cases f
  case chan x p => exact p.same_refl _
  case waveIndex j => exact (waveIndex_setWaveIndex s m j k).trans (if_neg fun h : j = m => hf (h ▸ hm))
  all_goals rfl

theorem markMasked {W : Set BlockField} {s : State} (hk : ∀ k, .dirty k ∈ W) (mask : BitVec 5) :
    Writes W s (s.markMasked mask) := by
  intro f hf
  cases f
  case chan x p => exact p.same_refl _
  case dirty j => exact absurd (hk j) hf
  all_goals rfl

theorem setNoiseActive {W : Set BlockField} {s : State} (h : .noiseActive ∈ W) (n : NoiseIx) :
    Writes W s (s.setNoiseActive n) := by
  intro f hf
  cases f
  case chan x p => exact p.same_refl _
  case noiseActive => exact absurd h hf
  all_goals rfl

theorem setPlaying {W : Set BlockField} {s : State} (h : .noisePlaying ∈ W) (b : Bool) :
    Writes W s (s.setPlaying b) := by
  intro f hf
  cases f
  case chan x p => exact p.same_refl _
  case noisePlaying => exact absurd h hf
  all_goals rfl

/-- A record is replaced by one that differs in part `q` alone. -/
theorem setChan {W : Set BlockField} {s : State} {x : Chan} {c : Channel} (q : RecordPart) (hq : .chan x q ∈ W)
    (hc : ∀ p, p ≠ q → p.Same (s.chan x) c) : Writes W s (s.setChan x c) := by
  intro f hf
  cases f
  case chan y p =>
    show p.Same (s.chan y) ((s.setChan x c).chan y)
    rw [chan_setChan]
    split
    · next h => subst h; exact hc p fun hp => hf (hp ▸ hq)
    · exact p.same_refl _
  all_goals rfl

theorem setEnabled {W : Set BlockField} {s : State} {x : Chan} (h : .chan x .enabled ∈ W) (b : Bool) :
    Writes W s (s.setEnabled x b) :=
  setChan .enabled h fun p hp => by cases p <;> simp [RecordPart.Same] at hp ⊢

end Writes

/-! ## What each operation writes -/

section

variable {W : Set BlockField}

theorem recopyUpload_writes {m : Mel} {k : Slot} (hk : .dirty k ∈ W) (s : State) : Writes W s (recopyUpload m k s) :=
  (Writes.setDirty hk false).trans (.emits W _ _)

theorem waveSel_writes {m : Mel} (hm : .waveIndex m ∈ W) (hk : ∀ k, .dirty k ∈ W) (s : State) :
    Writes W s (waveSel m s) := by
  cases hw : legalIndex (ramWidx (s.ramByte m)) with
  | none => rw [waveSel_illegal hw]; exact .refl W s
  | some w =>
    have hindex : Writes W s (s.setWaveIndex m w) := .setWaveIndex hm w
    cases he : (s.chan (.mel m)).enabled with
    | true => rw [waveSel_enabled hw he]; exact hindex
    | false => rw [waveSel_disabled hw he]; exact hindex.trans (recopyUpload_writes (m := m) (hk w) _)

theorem uploadIfDirty_writes {m : Mel} (hk : ∀ k, .dirty k ∈ W) (s : State) : Writes W s (uploadIfDirty m s) := by
  rw [uploadIfDirty_eq]
  split
  · exact recopyUpload_writes (m := m) (hk _) s
  · exact .refl W s

theorem armInterval_writes {x : Chan} (h : .chan x .interval ∈ W) (b : Byte) (s : State) :
    Writes W s (armInterval x b s) := by
  rw [armInterval_eq]
  split
  · exact (Writes.setChan .interval h fun p hp => by cases p <;> simp [RecordPart.Same] at hp ⊢).trans (.emits W _ _)
  · exact .refl W s

theorem startFromZero_writes (x : Chan) (s : State) : Writes W s (startFromZero x s) := by
  rw [startFromZero_eq]; exact .emits W s _

/-- What an enable transition does after the upload: interval, start, flag (41_channel_enable.md R152 to R154). -/
theorem enableTail_writes {x : Chan} (he : .chan x .enabled ∈ W) (hi : .chan x .interval ∈ W) (b : Byte) (s : State) :
    Writes W s ((startFromZero x (armInterval x b s)).setEnabled x true) :=
  ((armInterval_writes hi b s).trans (startFromZero_writes x _)).trans (.setEnabled he true)

theorem enableMelodic_writes {m : Mel} (he : .chan (.mel m) .enabled ∈ W) (hi : .chan (.mel m) .interval ∈ W)
    (hk : ∀ k, .dirty k ∈ W) (s : State) : Writes W s (enableMelodic m s) := by
  cases hs : (s.chan (.mel m)).enabled <;> cases hb : intEn (s.intByte (.mel m))
  case false.true =>
    rw [enableMelodic_enable hs hb]
    exact (uploadIfDirty_writes hk s).trans (enableTail_writes he hi _ _)
  case true.false =>
    rw [enableMelodic_disable hs hb]
    exact (Writes.setEnabled he false).trans (.emits W _ _)
  all_goals rw [enableMelodic_stay (hs.trans hb.symm)]; exact .refl W s

theorem enableNoise_writes (he : .chan .noise .enabled ∈ W) (hi : .chan .noise .interval ∈ W)
    (hp : .noisePlaying ∈ W) (s : State) : Writes W s (enableNoise s) := by
  cases hs : (s.chan .noise).enabled <;> cases hb : intEn (s.intByte .noise)
  case false.true =>
    rw [enableNoise_enable hs hb]
    exact (enableTail_writes he hi _ s).trans (.setPlaying hp true)
  case true.false =>
    rw [enableNoise_disable hs hb]
    exact ((Writes.setEnabled he false).trans (.setPlaying hp false)).trans (.emits W _ _)
  all_goals rw [enableNoise_stay (hs.trans hb.symm)]; exact .refl W s

theorem volPan_writes {x : Chan} (h : .chan x .levels ∈ W) (s : State) : Writes W s (volPan x s) := by
  rw [volPan_eq]
  exact (Writes.setChan .levels h fun p hp => by cases p <;> simp [RecordPart.Same] at hp ⊢).trans (.emits W _ _)

theorem envelope_writes {x : Chan} (h : .chan x .envelope ∈ W) (s : State) : Writes W s (envelope x s) := by
  have hrecord : ∀ e, Writes W s (s.setChan x { s.chan x with envelope := e }) := fun e =>
    .setChan .envelope h fun p hp => by cases p <;> simp [RecordPart.Same] at hp ⊢
  cases he : ev0En (s.ev0Byte x) with
  | false => rw [envelope_closed he]; exact hrecord _
  | true => rw [envelope_open he]; exact (hrecord _).trans (.emits W _ _)

/-- The engines of SxEV0 and SxEV1. -/
theorem levels_writes {x : Chan} (hl : .chan x .levels ∈ W) (he : .chan x .envelope ∈ W) (s : State) :
    Writes W s (envelope x (volPan x s)) :=
  (volPan_writes hl s).trans (envelope_writes he _)

theorem sweep_writes (h : .chan .full .sweepGate ∈ W) (s : State) : Writes W s (sweep s) := by
  have hgate : Writes W s (s.setSweepGate (s.ev1Byte .full)) :=
    .setChan .sweepGate h fun p hp => by cases p <;> simp [RecordPart.Same] at hp ⊢
  cases hrun : ev1SwpEn (s.ev1Byte .full) && !ev1Mod (s.ev1Byte .full) with
  | false => rw [sweep_quiet hrun]; exact hgate
  | true => rw [sweep_run hrun]; exact hgate.trans (.emits W _ _)

theorem noiseSelect_writes (h : .noiseActive ∈ W) (s : State) : Writes W s (noiseSelect s) := by
  by_cases hn : ev1Nsel (s.ev1Byte .noise) = s.blk.nsel.active
  · rw [noiseSelect_same hn]; exact .refl W s
  · rw [noiseSelect_switch hn]; exact (Writes.setNoiseActive h _).trans (.emits W _ _)

theorem freq_writes {x : Chan} (h : .chan x .frequency ∈ W) (s : State) : Writes W s (freq x s) := by
  rw [freq_eq]
  exact (Writes.setChan .frequency h fun p hp => by cases p <;> simp [RecordPart.Same] at hp ⊢).trans (.emits W _ _)

theorem stopAll_writes (s : State) : Writes W s (stopAll s) := by
  rw [stopAll_eq]; exact .emits W s _

end

/-! ## What each row writes -/

/-- The rows that may write a field (10_state.md R22 to R28, R30, R33). -/
def BlockField.WrittenBy : BlockField → Instr → Prop
  | .chan x .enabled, i => i = .intOf x
  | .chan x .frequency, i => i = .fqlOf x ∨ i = .fqhOf x
  | .chan x .levels, i => i = .lrvOf x ∨ i = .ev0Of x ∨ i = .ev1Of x
  | .chan x .envelope, i => i = .ev0Of x ∨ i = .ev1Of x
  | .chan x .interval, i => i = .intOf x
  | .chan x .sweepGate, i => x = .full ∧ (i = .s5ev1 ∨ i = .s5swp)
  | .waveIndex m, i => i = .ramOf m
  | .dirty k, i => (∃ off, i = .waveOf k off) ∨ (∃ off, i = .moddata off) ∨ ∃ m, i = .intOf (.mel m) ∨ i = .ramOf m
  | .noiseActive, i => i = .s6ev1
  | .noisePlaying, i => i = .s6int

/-- The fields a row may write. -/
def rowFields (i : Instr) : Set BlockField := { f | f.WrittenBy i }

/-- A row writes its fields alone. -/
theorem exec_writes {i : Instr} {s t : State} (h : exec i s = .next t) : Writes (rowFields i) s t := by
  have hdirty : ∀ m, i = .intOf (.mel m) ∨ i = .ramOf m → ∀ k, .dirty k ∈ rowFields i :=
    fun m hm _ => .inr (.inr ⟨m, hm⟩)
  rcases exec_cases i s with ⟨k, off, hi, h'⟩ | ⟨off, hi, h'⟩ | ⟨m, hi, h'⟩ | ⟨m, hi, h'⟩ | ⟨hi, h'⟩ |
    ⟨x, hi, h'⟩ | ⟨x, hi, h'⟩ | ⟨hi, h'⟩ | ⟨hi, h'⟩ | ⟨hi, h'⟩ | ⟨x, hi, h'⟩ | ⟨hi, h'⟩ | ⟨a, hi, h'⟩ <;>
    cases h'.symm.trans h
  · exact .setDirty (k := k) (.inl ⟨off, hi⟩) true
  · exact .markMasked (fun k => show BlockField.WrittenBy (.dirty k) i from .inr (.inl ⟨off, hi⟩)) _
  · exact waveSel_writes hi (hdirty m (.inr hi)) s
  · exact enableMelodic_writes hi hi (hdirty m (.inl hi)) s
  · exact enableNoise_writes hi hi hi s
  · exact volPan_writes (.inl hi) s
  · have hi : i = .ev0Of x ∨ i = .ev1Of x := hi.imp_right And.left
    exact levels_writes (.inr hi) hi s
  · exact (levels_writes (.inr (.inr hi)) (.inr hi) s).trans (sweep_writes (And.intro rfl (.inl hi)) _)
  · exact (noiseSelect_writes hi s).trans (levels_writes (.inr (.inr hi)) (.inr hi) _)
  · exact sweep_writes (And.intro rfl (.inr hi)) s
  · exact freq_writes hi s
  · exact stopAll_writes s
  · exact .refl _ s

/-- A field stands unless the row is one of its own. -/
theorem exec_same {i : Instr} {s t : State} (h : exec i s = .next t) (f : BlockField) (hf : ¬ f.WrittenBy i) :
    f.Same s t :=
  exec_writes h f hf

/-! ## Dirty flags -/

/-- Between `s` and `t` slot `k`'s flag was cleared, for channel `m` whose slot it is then, together with an upload of
the slot's conversion (40_waveform_store.md R132, R134). -/
structure Recopies (m : Mel) (k : Slot) (s t : State) : Prop where
  clear : t.dirty k = false
  index : t.waveIndex m = k
  upload : ∃ cs, t.out = s.out ++ .upload (.V m) (convert k s) :: cs

theorem waveSel_dirty (m : Mel) (k : Slot) (s : State) :
    (waveSel m s).dirty k = s.dirty k ∨ Recopies m k s (waveSel m s) := by
  cases hw : legalIndex (ramWidx (s.ramByte m)) with
  | none => rw [waveSel_illegal hw]; exact .inl rfl
  | some w =>
    cases he : (s.chan (.mel m)).enabled with
    | true => rw [waveSel_enabled hw he]; exact .inl rfl
    | false =>
      rw [waveSel_disabled hw he]
      by_cases hk : k = w
      · subst hk
        exact .inr ⟨by simp [dirty_setDirty], by simp [waveIndex_setWaveIndex], [], rfl⟩
      · exact .inl (by simp [dirty_setDirty, hk])

theorem uploadIfDirty_dirty (m : Mel) (k : Slot) (s : State) :
    (uploadIfDirty m s).dirty k = s.dirty k ∨ Recopies m k s (uploadIfDirty m s) := by
  rw [uploadIfDirty_eq]
  split
  · by_cases hk : k = s.waveIndex m
    · subst hk
      exact .inr ⟨by simp [dirty_setDirty], rfl, [], rfl⟩
    · exact .inl (by simp [dirty_setDirty, hk])
  · exact .inl rfl

/-- What follows the upload of an enable transition writes no flag and no index and takes no command back. -/
theorem Recopies.of_writes {m : Mel} {k : Slot} {W : Set BlockField} {s t u : State} (h : Recopies m k s t)
    (hw : Writes W t u) (hk : .dirty k ∉ W) (hm : .waveIndex m ∉ W) (hout : ∃ cs, u.out = t.out ++ cs) :
    Recopies m k s u := by
  obtain ⟨cs, hcs⟩ := h.upload
  obtain ⟨ds, hds⟩ := hout
  exact ⟨Eq.trans (hw _ hk) h.clear, Eq.trans (hw _ hm) h.index, cs ++ ds, by rw [hds, hcs]; simp⟩

theorem enableMelodic_dirty (m : Mel) (k : Slot) (s : State) :
    (enableMelodic m s).dirty k = s.dirty k ∨ Recopies m k s (enableMelodic m s) := by
  cases hs : (s.chan (.mel m)).enabled <;> cases hb : intEn (s.intByte (.mel m))
  case false.true =>
    rw [enableMelodic_enable hs hb]
    have hwrites := enableTail_writes (W := { .chan (.mel m) .enabled, .chan (.mel m) .interval }) (.inl rfl) (.inr rfl)
      (s.intByte (.mel m)) (uploadIfDirty m s)
    obtain ⟨cs, hcs, -⟩ := (((armInterval_effect (V := Set.univ) (.mel m) (s.intByte (.mel m)) (uploadIfDirty m s)
      trivial).trans (startFromZero_effect _ _ trivial)).trans (.setMelodicEnabled _ _ m true)).commands
    exact (uploadIfDirty_dirty m k s).imp (fun h => Eq.trans (hwrites (.dirty k) (by simp)) h)
      fun h => h.of_writes hwrites (by simp) (by simp) ⟨cs, hcs⟩
  case true.false => rw [enableMelodic_disable hs hb]; exact .inl rfl
  all_goals rw [enableMelodic_stay (hs.trans hb.symm)]; exact .inl rfl

/-- A row of the two that may recopy leaves a flag or recopies its slot. -/
theorem exec_recopies {i : Instr} {m : Mel} {s t : State} (h : exec i s = .next t)
    (hi : i = .intOf (.mel m) ∨ i = .ramOf m) (k : Slot) : t.dirty k = s.dirty k ∨ Recopies m k s t := by
  rcases hi with rfl | rfl
  · cases (exec_intOf_mel m s).symm.trans h; exact enableMelodic_dirty m k s
  · cases (exec_ramOf m s).symm.trans h; exact waveSel_dirty m k s

/-- What becomes of a flag in a row (10_state.md R30): it stands, it is marked by a write of its slot or of the
modulation data, or it is cleared by a recopy. -/
theorem exec_dirty {i : Instr} {s t : State} (h : exec i s = .next t) (k : Slot) :
    t.dirty k = s.dirty k ∨
    (t.dirty k = true ∧
      ((∃ off, i = .waveOf k off) ∨ ∃ off, i = .moddata off ∧ s.env.cfg.modDirtyMask.getLsbD k.val = true)) ∨
    ∃ m, (i = .intOf (.mel m) ∨ i = .ramOf m) ∧ Recopies m k s t := by
  by_cases hf : (BlockField.dirty k).WrittenBy i
  case neg => exact .inl (exec_same h (.dirty k) hf)
  rcases hf with ⟨off, rfl⟩ | ⟨off, rfl⟩ | ⟨m, hi⟩
  · cases (exec_waveOf k off s).symm.trans h
    exact .inr (.inl ⟨(dirty_setDirty s k k true).trans (if_pos rfl), .inl ⟨off, rfl⟩⟩)
  · cases (exec_moddata off s).symm.trans h
    have hmask := dirty_markMasked s s.env.cfg.modDirtyMask k
    cases hbit : s.env.cfg.modDirtyMask.getLsbD k.val with
    | false => rw [hbit, Bool.or_false] at hmask; exact .inl hmask
    | true => rw [hbit, Bool.or_true] at hmask; exact .inr (.inl ⟨hmask, .inr ⟨off, rfl, rfl⟩⟩)
  · exact (exec_recopies h hi k).imp_right fun hr => .inr ⟨m, hi, hr⟩

/-- A row that clears a flag recopies its slot. -/
theorem exec_clears_dirty {i : Instr} {s t : State} {k : Slot} (h : exec i s = .next t) (hs : s.dirty k = true)
    (ht : t.dirty k = false) : ∃ m, (i = .intOf (.mel m) ∨ i = .ramOf m) ∧ Recopies m k s t := by
  rcases exec_dirty h k with hsame | ⟨hset, -⟩ | hrecopy
  · exact absurd (ht.symm.trans (hsame.trans hs)) (by decide)
  · exact absurd (ht.symm.trans hset) (by decide)
  · exact hrecopy

/-- A row that sets a flag is its slot's or the modulation data's. -/
theorem exec_sets_dirty {i : Instr} {s t : State} {k : Slot} (h : exec i s = .next t) (hs : s.dirty k = false)
    (ht : t.dirty k = true) :
    (∃ off, i = .waveOf k off) ∨ ∃ off, i = .moddata off ∧ s.env.cfg.modDirtyMask.getLsbD k.val = true := by
  rcases exec_dirty h k with hsame | ⟨-, hrow⟩ | ⟨m, -, hrecopy⟩
  · exact absurd (ht.symm.trans (hsame.trans hs)) (by decide)
  · exact hrow
  · exact absurd (ht.symm.trans hrecopy.clear) (by decide)

/-- Settles O23: the row that clears the flag recopies the slot, and the list appended is determined by the streams. -/
theorem dirtyIsClearedOnlyByRecopy : Obligations.DirtyIsClearedOnlyByRecopy := by
  intro i s t cs k h hcs hs ht
  obtain ⟨m, -, hrecopy⟩ := exec_clears_dirty h hs ht
  obtain ⟨ds, hds⟩ := hrecopy.upload
  obtain rfl : cs = _ :: ds := List.append_cancel_left (hcs.symm.trans hds)
  exact ⟨m, List.mem_cons_self⟩

/-! ## Enabled bits and the table of fields -/

/-- After SxINT of a melodic channel its enabled bit is bit 7 of the byte, transition or not. -/
theorem enableMelodic_enabled (m : Mel) (s : State) :
    ((enableMelodic m s).chan (.mel m)).enabled = intEn (s.intByte (.mel m)) := by
  cases hs : (s.chan (.mel m)).enabled <;> cases hb : intEn (s.intByte (.mel m))
  case false.true => rw [enableMelodic_enable hs hb]; simp [State.setEnabled]
  case true.false => rw [enableMelodic_disable hs hb]; simp [State.setEnabled]
  all_goals rw [enableMelodic_stay (hs.trans hb.symm)]; exact hs

theorem enableNoise_enabled (s : State) : ((enableNoise s).chan .noise).enabled = intEn (s.intByte .noise) := by
  cases hs : (s.chan .noise).enabled <;> cases hb : intEn (s.intByte .noise)
  case false.true => rw [enableNoise_enable hs hb]; simp [State.setEnabled]
  case true.false => rw [enableNoise_disable hs hb]; simp [State.setEnabled]
  all_goals rw [enableNoise_stay (hs.trans hb.symm)]; exact hs

theorem exec_intOf_enabled {x : Chan} {s t : State} (h : exec (.intOf x) s = .next t) :
    (t.chan x).enabled = intEn (s.intByte x) := by
  cases x with
  | mel m => cases (exec_intOf_mel m s).symm.trans h; exact enableMelodic_enabled m s
  | noise => cases (exec_intOf_noise s).symm.trans h; exact enableNoise_enabled s

/-- Bit 7 by value (30_encoding.md R100). -/
theorem intEn_eq_le (b : Byte) : intEn b = decide (128 ≤ b.toNat) := by
  have hlt := b.isLt
  rw [intEn_eq, decide_eq_decide]
  omega

/-- Settles O27, by the fields a row writes and by the enable machine. -/
theorem onlyItsOwnRegisterEnablesAChannel : Obligations.OnlyItsOwnRegisterEnablesAChannel := by
  intro x i s t h
  refine ⟨fun hi => exec_same h (.chan x .enabled) hi, fun hi => ?_⟩
  subst hi
  rw [exec_intOf_enabled h, intEn_eq_le]

/-- Settles O38, by the fields a row writes and what becomes of a dirty flag. -/
theorem fieldsAreWrittenOnlyByTheirRows : Obligations.FieldsAreWrittenOnlyByTheirRows := by
  intro i s t h
  have hsame := exec_same h
  refine ⟨fun x hl hh => ?_, fun m hi => ?_, fun x hl h0 h1 => ?_, fun x h0 h1 => ?_, fun x hi => ?_, fun x hx => ?_,
    fun hi => ?_, fun hi => ?_, fun k => exec_sets_dirty h, fun k hs ht => ?_, fun x hi => ?_,
    (Effect.of_exec h).failed⟩
  · exact hsame (.chan x .frequency) (by rintro (hi | hi); exacts [hl hi, hh hi])
  · exact hsame (.waveIndex m) hi
  · exact hsame (.chan x .levels) (by rintro (hi | hi | hi); exacts [hl hi, h0 hi, h1 hi])
  · exact hsame (.chan x .envelope) (by rintro (hi | hi); exacts [h0 hi, h1 hi])
  · exact hsame (.chan x .interval) hi
  · refine hsame (.chan x .sweepGate) fun ⟨hfull, hi⟩ => ?_
    rcases hx with hx | ⟨hev1, hswp⟩
    · exact hx hfull
    · exact hi.elim hev1 hswp
  · exact hsame .noiseActive hi
  · exact hsame .noisePlaying hi
  · obtain ⟨m, hi, hrecopy⟩ := exec_clears_dirty h hs ht
    exact ⟨m, hi, hrecopy.index⟩
  · exact hsame (.chan x .enabled) hi

end Sys2Proof.Machine

/-! Histories, inputs and constants over a whole step; reset and boot. -/

namespace Sys2Proof.Machine

/-! ## What a step leaves -/

/-- Accepting a notification changes nothing of the block, the commands, the configuration, the gate input or the
script (30_encoding.md R95 lines 1 to 3). -/
theorem fetch_run_frame {s u : State} {i : Instr} (h : fetch s = .run i u) :
    u.blk = s.blk ∧ u.out = s.out ∧ u.env.cfg = s.env.cfg ∧ u.env.sndEn = s.env.sndEn ∧
      u.env.backend = s.env.backend := by
  obtain ⟨a, rest, v, hv, -, -, -, rfl⟩ := fetch_run h
  rcases hv with ⟨-, rfl⟩ | ⟨b, -, -, rfl⟩ <;> exact ⟨rfl, rfl, rfl, rfl, rfl⟩

/-- A step that runs no instruction takes no feedback sample, and leaves the gate input and the script unless its action
sets them (30_encoding.md R111). -/
theorem fetch_quiet_inputs {s t : State} (h : fetch s = .quiet t) :
    t.env.sample = s.env.sample ∧ t.env.draws = s.env.draws ∧
      ((∀ on rest, s.env.inbox ≠ .sndEn on :: rest) → t.env.sndEn = s.env.sndEn) ∧
      ((∀ f rest, s.env.inbox ≠ .fb f :: rest) → t.env.backend = s.env.backend) := by
  unfold fetch at h
  cases hi : s.env.inbox with
  | nil => rw [hi] at h; cases h; exact ⟨rfl, rfl, fun _ => rfl, fun _ => rfl⟩
  | cons act rest =>
    simp only [hi] at h
    cases act <;> simp only [hostAction] at h
    case st a v =>
      split at h
      · rw [eq_of_accept_quiet h]; exact ⟨rfl, rfl, fun _ => rfl, fun _ => rfl⟩
      · cases h
    case notify a => rw [eq_of_accept_quiet h]; exact ⟨rfl, rfl, fun _ => rfl, fun _ => rfl⟩
    case poke a v => split at h <;> cases h; exact ⟨rfl, rfl, fun _ => rfl, fun _ => rfl⟩
    case store a bytes => split at h <;> cases h; exact ⟨rfl, rfl, fun _ => rfl, fun _ => rfl⟩
    case fb f => cases h; exact ⟨rfl, rfl, fun _ => rfl, fun hne => absurd rfl (hne f rest)⟩
    case sndEn on => cases h; exact ⟨rfl, rfl, fun hne => absurd rfl (hne on rest), fun _ => rfl⟩
    case shutdown => split at h <;> cases h; exact ⟨rfl, rfl, fun _ => rfl, fun _ => rfl⟩
    case init ok => split at h <;> cases h; exact ⟨rfl, rfl, fun _ => rfl, fun _ => rfl⟩

/-- Settles O15, by the effect of a row. -/
theorem stepsOnlyAppendCommands : Obligations.StepsOnlyAppendCommands := by
  intro s t h
  rcases step_cases h with hquiet | ⟨i, u, hrun, hexec⟩
  · obtain ⟨hout, -⟩ := fetch_quiet hquiet
    exact ⟨[], by rw [hout, List.append_nil]⟩
  · obtain ⟨-, hout, -⟩ := fetch_run_frame hrun
    obtain ⟨cs, hcs, -⟩ := (Effect.of_exec hexec).commands
    exact ⟨cs, by rw [hcs, hout]⟩

/-- Settles O47: the surroundings and `failed` are in no row's effect. -/
theorem failedAndConfigurationAreConstant : Obligations.FailedAndConfigurationAreConstant := by
  intro s t h
  rcases step_cases h with hquiet | ⟨i, u, hrun, hexec⟩
  · obtain ⟨-, hcfg, hblk⟩ := fetch_quiet hquiet
    refine ⟨hcfg, fun hinit => ?_⟩
    rcases hblk with hblk | ⟨ok, rest, hi, -⟩
    · rw [hblk]
    · exact absurd hi (hinit ok rest)
  · obtain ⟨hblk, -, hcfg, -⟩ := fetch_run_frame hrun
    have heffect := Effect.of_exec hexec
    exact ⟨by rw [heffect.env, hcfg], fun _ => by rw [heffect.failed, hblk]⟩

/-- Settles O51: the two actions by the definition of the step, every other step by what fetch and row leave. -/
theorem onlyTheHostSetsTheGateAndTheScript : Obligations.OnlyTheHostSetsTheGateAndTheScript := by
  intro s
  refine ⟨fun on rest hi => step_of_quiet ?_, fun f rest hi => step_of_quiet ?_, fun t h => ?_⟩
  · unfold fetch; rw [hi]; rfl
  · unfold fetch; rw [hi]; rfl
  · rcases step_cases h with hquiet | ⟨i, u, hrun, hexec⟩
    · obtain ⟨-, -, hsndEn, hbackend⟩ := fetch_quiet_inputs hquiet
      exact ⟨hsndEn, hbackend⟩
    · obtain ⟨-, -, -, hsndEn, hbackend⟩ := fetch_run_frame hrun
      have henv := (Effect.of_exec hexec).env
      exact ⟨fun _ => by rw [henv, hsndEn], fun _ => by rw [henv, hbackend]⟩

/-- Settles O49: only a notification runs an instruction, and a step that runs none leaves block, commands and
sample. -/
theorem nothingHappensWithoutANotification : Obligations.NothingHappensWithoutANotification := by
  intro s
  refine ⟨fun hi => step_of_quiet (by simp only [fetch, hi]), fun act rest t hi hnotify hst hinit h => ?_⟩
  rcases step_cases h with hquiet | ⟨i, u, hrun, -⟩
  · obtain ⟨hout, -, hblk⟩ := fetch_quiet hquiet
    obtain ⟨hsample, hdraws, -⟩ := fetch_quiet_inputs hquiet
    rcases hblk with hblk | ⟨ok, rest', hi', -⟩
    · exact ⟨hblk, hout, hsample, hdraws⟩
    · cases hi.symm.trans hi'; exact absurd rfl (hinit ok)
  · obtain ⟨a, rest', v, ⟨hi', -⟩ | ⟨b, hi', -⟩, -⟩ := fetch_run hrun
    · cases hi.symm.trans hi'; exact absurd rfl (hnotify a)
    · cases hi.symm.trans hi'; exact absurd rfl (hst a b)

/-! ## Reset and boot -/

/-- Every channel record is at its reset value (10_state.md R43). -/
@[simp] theorem resetWith_chan (cfg : Config) (ok : Bool) (x : Chan) :
    (State.resetWith cfg ok).chan x = Channel.reset := by
  rcases x with (_ | _ | _ | _ | _) | _ <;> rfl

@[simp] theorem resetWith_waveIndex (cfg : Config) (ok : Bool) (m : Mel) :
    (State.resetWith cfg ok).waveIndex m = 0 := by
  cases m <;> rfl

@[simp] theorem resetWith_dirty (cfg : Config) (ok : Bool) (k : Slot) : (State.resetWith cfg ok).dirty k = true := by
  fin_cases k <;> rfl

/-- Settles O45, table by table. -/
theorem resetValues : Obligations.ResetValues := by
  intro cfg ok
  refine ⟨fun x => ?_, fun m => ?_, fun k => resetWith_dirty cfg ok k, rfl, rfl, rfl, rfl⟩
  · rw [resetWith_chan]
    exact ⟨rfl, rfl, rfl, rfl, rfl, rfl, rfl, rfl, rfl, rfl, rfl⟩
  · rw [resetWith_waveIndex]; rfl

/-- Settles O50: the numbers by the order of the list, the rest by what a listed voice was created from. -/
theorem thirteenVoicesAtBoot : Obligations.ThirteenVoicesAtBoot := by
  intro cfg
  refine ⟨rfl, rfl, fun b hb => ?_⟩
  rcases mem_bootVoices.mp hb with ⟨m, rfl⟩ | ⟨n, rfl⟩
  · refine ⟨rfl, fun _ _ => ?_, nofun⟩
    rw [createVoice_buffer, Vector.length_toList]
  · refine ⟨rfl, nofun, fun j hj => ?_⟩
    cases hj
    rfl

end Sys2Proof.Machine

/-! Bus memory and the block (20_memory.md): notifications, CPU writes and stores, the conversion of a slot. -/

namespace Sys2Proof.Machine

/-! ## The fetch of each memory action -/

section

variable {s : State} {a : Nat} {rest : List HostAction}

/-- The host's next action is taken from the inbox. -/
theorem fetch_cons {act : HostAction} (hi : s.env.inbox = act :: rest) :
    fetch s = hostAction act (s.setInbox rest) := by
  simp only [fetch, hi]

theorem fetch_notify (hi : s.env.inbox = .notify a :: rest) : fetch s = accept a (s.setInbox rest) := fetch_cons hi

theorem fetch_st {v : Byte} (hi : s.env.inbox = .st a v :: rest) :
    fetch s = if a < 2 ^ s.env.cfg.addrW then accept a ((s.setInbox rest).memWrite a v)
      else .fault .outsideAddressSpace :=
  fetch_cons hi

theorem fetch_poke {v : Byte} (hi : s.env.inbox = .poke a v :: rest) (ha : a < 2 ^ s.env.cfg.addrW) :
    fetch s = .quiet ((s.setInbox rest).memWrite a v) :=
  (fetch_cons hi).trans (if_pos ha)

theorem fetch_store {bytes : List Byte} (hi : s.env.inbox = .store a bytes :: rest)
    (hfits : a + bytes.length ≤ 2 ^ s.env.cfg.addrW) : fetch s = .quiet ((s.setInbox rest).storeBytes a bytes) :=
  (fetch_cons hi).trans (if_pos hfits)

end

/-- Only an ADDR_W-bit number decodes (30_encoding.md R90). -/
theorem lt_of_decode_ok {cfg : Config} {a : Nat} {i : Instr} (h : decode cfg a = .ok i) : a < 2 ^ cfg.addrW := by
  by_contra hwide
  simp [decode, Nat.le_of_not_lt hwide] at h

/-- Settles O7: the fetch is an acceptance through an open gate. -/
theorem stepRunsTheDecodedInstruction : Obligations.StepRunsTheDecodedInstruction := by
  intro s a i rest halive hsnd hfailed hdecode
  have hgate : s.gateOpen = true := by simp [State.gateOpen, hsnd, hfailed]
  refine ⟨fun hi => step_of_run ?_, fun v hi => step_of_run ?_⟩
  · rw [fetch_notify hi]
    exact accept_open halive hgate hdecode
  · rw [fetch_st hi, if_pos (lt_of_decode_ok hdecode)]
    exact accept_open halive hgate hdecode

/-! ## Written and stored bytes -/

/-- Read after write, in a state whose memory is that of `s` with one byte written. -/
theorem memRead_of_bus_write {s t : State} {a : Nat} {v : Byte} (hwf : s.env.bus.wf = true)
    (hbus : t.env.bus = s.env.bus.write a v) : t.memRead a = v ∧ ∀ b, b ≠ a → t.memRead b = s.memRead b := by
  unfold State.memRead
  rw [hbus]
  exact ⟨read_write_self a v hwf, fun b hb => read_write_ne v hb.symm⟩

/-- Whatever the notification of a CPU write comes to, the step's memory is the old one with that byte written: no row
writes memory (20_memory.md R60). -/
theorem step_st_bus {s t : State} {a : Nat} {v : Byte} {rest : List HostAction}
    (hi : s.env.inbox = .st a v :: rest) (h : step s = .next t) : t.env.bus = s.env.bus.write a v := by
  rcases step_cases h with hquiet | ⟨i, u, hrun, hexec⟩
  · rw [fetch_st hi] at hquiet
    split at hquiet
    · rw [eq_of_accept_quiet hquiet]; rfl
    · cases hquiet
  · obtain ⟨b, rest', w, ⟨hi', -⟩ | ⟨c, hi', -, rfl⟩, -, -, -, rfl⟩ := fetch_run hrun
    · cases hi.symm.trans hi'
    · cases hi.symm.trans hi'
      rw [(Effect.of_exec hexec).env]
      rfl

/-- Settles O10: no row writes memory, so the byte the CPU wrote is read back. -/
theorem writtenByteStandsAfterTheStep : Obligations.WrittenByteStandsAfterTheStep :=
  fun _ _ _ _ _ hwf hi h => memRead_of_bus_write hwf (step_st_bus hi h)

/-- Settles O11: the step is the write alone. -/
theorem unnotifiedWriteIsInvisible : Obligations.UnnotifiedWriteIsInvisible := by
  intro s a v rest hwf hi ha
  exact ⟨_, step_of_quiet (fetch_poke hi ha), rfl, rfl, rfl, memRead_of_bus_write hwf rfl⟩

/-- The stored addresses that are registers or lie in a region, ascending (20_memory.md R72). -/
def mappedAddrs (m : AddrMap) (a n : Nat) : List Nat := ((List.range n).map (a + ·)).filter m.mapped

theorem owedNotifications_eq (m : AddrMap) (a n : Nat) :
    owedNotifications m a n = (mappedAddrs m a n).map .notify := by
  rw [owedNotifications, mappedAddrs, ← List.filterMap_eq_filter, List.map_filterMap]
  refine List.filterMap_congr fun b _ => ?_
  cases h : m.mapped b <;> simp [Option.guard, h]

theorem mem_mappedAddrs {m : AddrMap} {a n b : Nat} :
    b ∈ mappedAddrs m a n ↔ (a ≤ b ∧ b < a + n) ∧ m.mapped b = true := by
  rw [mappedAddrs, List.mem_filter, and_congr_left_iff]
  intro _
  rw [List.mem_map]
  constructor
  · rintro ⟨j, hj, rfl⟩
    have := List.mem_range.mp hj
    omega
  · rintro ⟨hle, hlt⟩
    exact ⟨b - a, List.mem_range.mpr (by omega), by omega⟩

theorem mappedAddrs_pairwise (m : AddrMap) (a n : Nat) : (mappedAddrs m a n).Pairwise (· < ·) :=
  (List.pairwise_map.mpr (List.pairwise_lt_range.imp fun h => Nat.add_lt_add_left h a)).filter _

/-- Settles O12: the notifications owed are those of the mapped addresses stored. -/
theorem wideStoreOwesOneNotificationPerMappedByte : Obligations.WideStoreOwesOneNotificationPerMappedByte := by
  intro s a bytes rest hwf hi hfits
  refine ⟨_, mappedAddrs s.map a bytes.length, step_of_quiet (fetch_store hi hfits), rfl, rfl, ?_,
    mappedAddrs_pairwise _ _ _, fun _ => mem_mappedAddrs, fun n hn => read_writeBytes_in hwf n hn,
    fun b hb => read_writeBytes_out hb⟩
  rw [← owedNotifications_eq]
  rfl

/-! ## The conversion -/

theorem convert_get (k : Slot) (s : State) (i : Fin 32) :
    (convert k s).get i = convertSample (s.memRead (s.env.cfg.aSample k i)) := by
  simp [convert, Vector.get_eq_getElem]

theorem convertSample_toNat (b : Byte) : (convertSample b).toNat = (b.toNat % 64 * 4) ^^^ 0x80 := by
  revert b; decide +kernel

theorem convertSample_toInt (b : Byte) : (convertSample b).toInt = 4 * ((b.toNat % 64 : Nat) : Int) - 128 := by
  revert b; decide +kernel

/-- Settles O18, sample by sample. -/
theorem convertReadsTheSlot : Obligations.ConvertReadsTheSlot := by
  intro k s i
  rw [convert_get]
  exact ⟨convertSample_toNat _, convertSample_toInt _⟩

end Sys2Proof.Machine

/-! Where uploads go (20_memory.md R70): only two operations upload, each for a disabled channel. -/

namespace Sys2Proof.Machine

/-! ## The uploads between two states -/

/-- Between `s` and `t` commands were appended, and every upload among them satisfies `P`. -/
def UploadsSatisfy (P : Voice → Vector Byte 32 → Prop) (s t : State) : Prop :=
  ∃ cs, t.out = s.out ++ cs ∧ ∀ v buf, .upload v buf ∈ cs → P v buf

namespace UploadsSatisfy

variable {P : Voice → Vector Byte 32 → Prop}

theorem of_out_eq {s t : State} (h : t.out = s.out) : UploadsSatisfy P s t := ⟨[], by simp [h], nofun⟩

theorem emits {s t : State} {cs : List Cmd} (hout : t.out = s.out) (h : ∀ v buf, .upload v buf ∈ cs → P v buf) :
    UploadsSatisfy P s (t.emits cs) :=
  ⟨cs, congrArg (· ++ cs) hout, h⟩

theorem trans {s t u : State} (h : UploadsSatisfy P s t) (k : UploadsSatisfy P t u) : UploadsSatisfy P s u := by
  obtain ⟨cs, hcs, hP⟩ := h
  obtain ⟨ds, hds, hP'⟩ := k
  exact ⟨cs ++ ds, by rw [hds, hcs, List.append_assoc],
    fun v buf hc => (List.mem_append.mp hc).elim (hP v buf) (hP' v buf)⟩

theorem mono {Q : Voice → Vector Byte 32 → Prop} {s t : State} (h : UploadsSatisfy P s t)
    (hPQ : ∀ v buf, P v buf → Q v buf) : UploadsSatisfy Q s t := by
  obtain ⟨cs, hcs, hP⟩ := h
  exact ⟨cs, hcs, fun v buf hc => hPQ v buf (hP v buf hc)⟩

/-- The list appended is determined by the two streams. -/
theorem of_mem {s t : State} (h : UploadsSatisfy P s t) {cs : List Cmd} (hcs : t.out = s.out ++ cs) {v : Voice}
    {buf : Vector Byte 32} (hmem : .upload v buf ∈ cs) : P v buf := by
  obtain ⟨ds, hds, hP⟩ := h
  obtain rfl : cs = ds := List.append_cancel_left (hcs.symm.trans hds)
  exact hP v buf hmem

end UploadsSatisfy

/-! ## Operations that upload nothing -/

section

variable {P : Voice → Vector Byte 32 → Prop}

theorem armInterval_uploads (x : Chan) (b : Byte) (s : State) : UploadsSatisfy P s (armInterval x b s) := by
  rw [armInterval_eq]
  split
  · exact .emits rfl (by simp)
  · exact .of_out_eq rfl

theorem startFromZero_uploads (x : Chan) (s : State) : UploadsSatisfy P s (startFromZero x s) := by
  rw [startFromZero_eq]; exact .emits rfl (by simp)

/-- Only step (a) of an enable transition uploads (41_channel_enable.md R151 to R154). -/
theorem enableTail_uploads (x : Chan) (b : Byte) (s : State) :
    UploadsSatisfy P s ((startFromZero x (armInterval x b s)).setEnabled x true) :=
  ((armInterval_uploads x b s).trans (startFromZero_uploads x _)).trans (.of_out_eq rfl)

theorem enableNoise_uploads (s : State) : UploadsSatisfy P s (enableNoise s) := by
  cases hs : (s.chan .noise).enabled <;> cases hb : intEn (s.intByte .noise)
  case false.true =>
    rw [enableNoise_enable hs hb]
    exact (enableTail_uploads .noise _ s).trans (.of_out_eq rfl)
  case true.false => rw [enableNoise_disable hs hb]; exact .emits rfl (by simp)
  all_goals rw [enableNoise_stay (hs.trans hb.symm)]; exact .of_out_eq rfl

theorem volPan_uploads (x : Chan) (s : State) : UploadsSatisfy P s (volPan x s) := by
  rw [volPan_eq]; exact .emits rfl (by simp)

theorem envelope_uploads (x : Chan) (s : State) : UploadsSatisfy P s (envelope x s) := by
  cases he : ev0En (s.ev0Byte x) with
  | false => rw [envelope_closed he]; exact .of_out_eq rfl
  | true => rw [envelope_open he]; exact .emits rfl (by simp)

theorem levels_uploads (x : Chan) (s : State) : UploadsSatisfy P s (envelope x (volPan x s)) :=
  (volPan_uploads x s).trans (envelope_uploads x _)

theorem sweep_uploads (s : State) : UploadsSatisfy P s (sweep s) := by
  cases hrun : ev1SwpEn (s.ev1Byte .full) && !ev1Mod (s.ev1Byte .full) with
  | false => rw [sweep_quiet hrun]; exact .of_out_eq rfl
  | true => rw [sweep_run hrun]; exact .emits rfl (by simp)

theorem noiseSelect_uploads (s : State) : UploadsSatisfy P s (noiseSelect s) := by
  by_cases hn : ev1Nsel (s.ev1Byte .noise) = s.blk.nsel.active
  · rw [noiseSelect_same hn]; exact .of_out_eq rfl
  · rw [noiseSelect_switch hn]
    refine .emits rfl ?_
    cases s.blk.nsel.playing <;> simp

theorem freq_uploads (x : Chan) (s : State) : UploadsSatisfy P s (freq x s) := by
  rw [freq_eq]; exact .emits rfl (by simp)

theorem stopAll_uploads (s : State) : UploadsSatisfy P s (stopAll s) := by
  rw [stopAll_eq]; exact .emits rfl (by simp)

end

/-! ## Operations that upload -/

/-- What 20_memory.md R70 asks of an upload for channel `m` in an operation from `s` to `t`. -/
structure FreshUpload (m : Mel) (s t : State) (v : Voice) (buf : Vector Byte 32) : Prop where
  voice : v = .V m
  disabled : (s.chan (.mel m)).enabled = false
  fresh : buf = convert (t.waveIndex m) s
  clean : t.dirty (t.waveIndex m) = false

theorem waveSel_uploads (m : Mel) (s : State) : UploadsSatisfy (FreshUpload m s (waveSel m s)) s (waveSel m s) := by
  cases hw : legalIndex (ramWidx (s.ramByte m)) with
  | none => exact .of_out_eq (by rw [waveSel_illegal hw])
  | some w =>
    cases he : (s.chan (.mel m)).enabled with
    | true => exact .of_out_eq (by rw [waveSel_enabled hw he]; rfl)
    | false =>
      rw [waveSel_disabled hw he]
      refine .emits rfl fun v buf hmem => ?_
      cases List.mem_singleton.mp hmem
      exact ⟨rfl, he, by simp [waveIndex_setWaveIndex], by simp [waveIndex_setWaveIndex, dirty_setDirty]⟩

@[simp] theorem uploadIfDirty_waveIndex (m n : Mel) (s : State) : (uploadIfDirty m s).waveIndex n = s.waveIndex n := by
  rw [uploadIfDirty_eq]; split <;> simp

/-- After step (a) of the enable transition the channel's slot is clean, uploaded or not (41_channel_enable.md R151). -/
theorem uploadIfDirty_clean (m : Mel) (s : State) : (uploadIfDirty m s).dirty (s.waveIndex m) = false := by
  rw [uploadIfDirty_eq]
  split
  · simp [dirty_setDirty]
  · next h => exact Bool.eq_false_iff.mpr h

theorem uploadIfDirty_uploads (m : Mel) (s : State) :
    UploadsSatisfy (fun v buf => v = .V m ∧ buf = convert (s.waveIndex m) s) s (uploadIfDirty m s) := by
  rw [uploadIfDirty_eq]
  split
  · refine .emits rfl fun v buf hmem => ?_
    cases List.mem_singleton.mp hmem
    exact ⟨rfl, rfl⟩
  · exact .of_out_eq rfl

theorem enableMelodic_uploads (m : Mel) (s : State) :
    UploadsSatisfy (FreshUpload m s (enableMelodic m s)) s (enableMelodic m s) := by
  cases hs : (s.chan (.mel m)).enabled <;> cases hb : intEn (s.intByte (.mel m))
  case false.true =>
    rw [enableMelodic_enable hs hb]
    have htail := enableTail_writes (W := { .chan (.mel m) .enabled, .chan (.mel m) .interval }) (.inl rfl) (.inr rfl)
      (s.intByte (.mel m)) (uploadIfDirty m s)
    have hindex := Eq.trans (htail (.waveIndex m) (by simp)) (uploadIfDirty_waveIndex m m s)
    have hclean := Eq.trans (htail (.dirty (s.waveIndex m)) (by simp)) (uploadIfDirty_clean m s)
    refine ((uploadIfDirty_uploads m s).mono fun v buf hup => ?_).trans (enableTail_uploads _ _ _)
    obtain ⟨hvoice, hfresh⟩ := hup
    exact ⟨hvoice, hs, by rw [hindex]; exact hfresh, by rw [hindex]; exact hclean⟩
  case true.false => rw [enableMelodic_disable hs hb]; exact .emits rfl (by simp)
  all_goals rw [enableMelodic_stay (hs.trans hb.symm)]; exact .of_out_eq rfl

/-- Every row uploads freshly, to the voice of a disabled channel, or not at all. -/
theorem exec_uploads {i : Instr} {s t : State} (h : exec i s = .next t) :
    UploadsSatisfy (fun v buf => ∃ m, FreshUpload m s t v buf) s t := by
  rcases exec_cases i s with ⟨k, off, -, h'⟩ | ⟨off, -, h'⟩ | ⟨m, -, h'⟩ | ⟨m, -, h'⟩ | ⟨-, h'⟩ | ⟨x, -, h'⟩ |
    ⟨x, -, h'⟩ | ⟨-, h'⟩ | ⟨-, h'⟩ | ⟨-, h'⟩ | ⟨x, -, h'⟩ | ⟨-, h'⟩ | ⟨a, -, h'⟩ <;> cases h'.symm.trans h
  · exact .of_out_eq rfl
  · exact .of_out_eq rfl
  · exact (waveSel_uploads m s).mono fun _ _ hup => ⟨m, hup⟩
  · exact (enableMelodic_uploads m s).mono fun _ _ hup => ⟨m, hup⟩
  · exact enableNoise_uploads s
  · exact volPan_uploads x s
  · exact levels_uploads x s
  · exact (levels_uploads .full s).trans (sweep_uploads _)
  · exact (noiseSelect_uploads s).trans (levels_uploads .noise _)
  · exact sweep_uploads s
  · exact freq_uploads x s
  · exact stopAll_uploads s
  · exact .of_out_eq rfl

/-- Settles O22, by the uploads of a row. -/
theorem uploadsOnlyWhileDisabled : Obligations.UploadsOnlyWhileDisabled := by
  intro i s t cs v buf h hcs hmem
  obtain ⟨m, hup⟩ := (exec_uploads h).of_mem hcs hmem
  exact ⟨m, hup.voice, hup.disabled, hup.fresh, hup.clean⟩

end Sys2Proof.Machine

/-! Another bus memory (20_memory.md R66): an operation over a memory that holds the same bytes where it reads does the
same. -/

namespace Sys2Proof.Machine

/-! ## The same bytes -/

/-- The memory holds the bytes of `s` at these addresses. -/
def Memory.AgreesOn (b : Memory) (s : State) (addrs : List Nat) : Prop := ∀ a ∈ addrs, b.read a = s.memRead a

namespace Memory.AgreesOn

theorem mono {b : Memory} {s : State} {as as' : List Nat} (h : b.AgreesOn s as) (hsub : as' ⊆ as) :
    b.AgreesOn s as' :=
  fun a ha => h a (hsub ha)

theorem of_env {b : Memory} {s t : State} {as : List Nat} (h : b.AgreesOn s as) (henv : t.env = s.env) :
    b.AgreesOn t as := by
  simp only [AgreesOn, State.memRead, henv]
  exact h

end Memory.AgreesOn

/-! ## What the conditional reads hold -/

theorem aEv1_mem_envelopeReads {x : Chan} {s : State} (h : ev0En (s.ev0Byte x) = true) :
    s.map.aEv1 x ∈ envelopeReads s x := by
  have hbit : (s.ev0Byte x).getLsbD 0 = true := h
  simp [envelopeReads, hbit]

/-- The envelope engine reads at most three bytes (20_memory.md R66). -/
theorem envelopeReads_subset (x : Chan) (s : State) :
    envelopeReads s x ⊆ [s.map.aLrv x, s.map.aEv0 x, s.map.aEv1 x] := by
  unfold envelopeReads
  split <;> simp

/-- Which bytes the envelope and the sweep engine read depends on the surroundings alone. -/
theorem envelopeReads_of_env {s t : State} (henv : t.env = s.env) (x : Chan) :
    envelopeReads t x = envelopeReads s x :=
  congrArg (fun e : Env => envelopeReads { s with env := e } x) henv

theorem sweepReads_of_env {s t : State} (henv : t.env = s.env) : sweepReads t = sweepReads s :=
  congrArg (fun e : Env => sweepReads { s with env := e }) henv

theorem swp_mem_sweepReads {s : State} (h : (ev1SwpEn (s.ev1Byte .full) && !ev1Mod (s.ev1Byte .full)) = true) :
    s.map.swp ∈ sweepReads s := by
  have hbits : ((s.ev1Byte .full).getLsbD 6 && !(s.ev1Byte .full).getLsbD 4) = true := h
  rw [sweepReads, if_pos hbits]
  simp

theorem sampleAddrs_subset_ramReads {m : Mel} {s : State} {w : Slot} (hw : legalIndex (ramWidx (s.ramByte m)) = some w)
    (he : (s.chan (.mel m)).enabled = false) : sampleAddrs s.env.cfg w ⊆ ramReads s m := by
  simp [ramReads, hw, he]

theorem sampleAddrs_subset_intReads {m : Mel} {s : State} (he : (s.chan (.mel m)).enabled = false)
    (hb : intEn (s.intByte (.mel m)) = true) (hd : s.dirty (s.waveIndex m) = true) :
    sampleAddrs s.env.cfg (s.waveIndex m) ⊆ intReads s m := by
  have hbit : (s.intByte (.mel m)).getLsbD 7 = true := hb
  simp [intReads, he, hbit, hd]

/-! ## Each operation -/

section

variable {s : State} {b : Memory}

theorem convert_withBus {k : Slot} (h : b.AgreesOn s (sampleAddrs s.env.cfg k)) :
    convert k (s.withBus b) = convert k s := by
  refine congrArg Vector.ofFn (funext fun i => congrArg convertSample (h _ ?_))
  exact List.mem_map_of_mem (List.mem_finRange i)

theorem recopyUpload_withBus (m : Mel) {k : Slot} (h : b.AgreesOn s (sampleAddrs s.env.cfg k)) :
    recopyUpload m k (s.withBus b) = (recopyUpload m k s).withBus b := by
  rw [recopyUpload_eq, recopyUpload_eq, convert_withBus h]; rfl

theorem waveSel_withBus {m : Mel} (h : b.AgreesOn s (ramReads s m)) :
    waveSel m (s.withBus b) = (waveSel m s).withBus b := by
  have hbyte : (s.withBus b).ramByte m = s.ramByte m := h (s.map.aRam m) (by simp [ramReads])
  cases hw : legalIndex (ramWidx (s.ramByte m)) with
  | none => rw [waveSel_illegal hw, waveSel_illegal (hbyte.symm ▸ hw)]
  | some w =>
    have hw' : legalIndex (ramWidx ((s.withBus b).ramByte m)) = some w := hbyte.symm ▸ hw
    cases he : (s.chan (.mel m)).enabled with
    | true => rw [waveSel_enabled hw he, waveSel_enabled hw' he]; rfl
    | false =>
      rw [waveSel_disabled hw he, waveSel_disabled hw' he,
        convert_withBus (h.mono (sampleAddrs_subset_ramReads hw he))]
      rfl

theorem uploadIfDirty_withBus {m : Mel}
    (h : s.dirty (s.waveIndex m) = true → b.AgreesOn s (sampleAddrs s.env.cfg (s.waveIndex m))) :
    uploadIfDirty m (s.withBus b) = (uploadIfDirty m s).withBus b := by
  have hdirty : (s.withBus b).dirty ((s.withBus b).waveIndex m) = s.dirty (s.waveIndex m) := rfl
  rw [uploadIfDirty_eq, uploadIfDirty_eq, hdirty]
  split
  · next hd => exact recopyUpload_withBus m (h hd)
  · rfl

theorem armInterval_withBus (x : Chan) (v : Byte) (s : State) (b : Memory) :
    armInterval x v (s.withBus b) = (armInterval x v s).withBus b := by
  rw [armInterval_eq, armInterval_eq]
  split <;> rfl

theorem enableMelodic_withBus {m : Mel} (h : b.AgreesOn s (intReads s m)) :
    enableMelodic m (s.withBus b) = (enableMelodic m s).withBus b := by
  have hbyte : (s.withBus b).intByte (.mel m) = s.intByte (.mel m) := h (s.map.aInt (.mel m)) (by simp [intReads])
  cases he : (s.chan (.mel m)).enabled <;> cases hb : intEn (s.intByte (.mel m))
  all_goals have hb' := (congrArg intEn hbyte).trans hb
  case false.true =>
    have hupload := uploadIfDirty_withBus fun hd => h.mono (sampleAddrs_subset_intReads he hb hd)
    rw [enableMelodic_enable he hb, enableMelodic_enable (s := s.withBus b) he hb', hbyte, hupload,
      armInterval_withBus]
    rfl
  case true.false => rw [enableMelodic_disable he hb, enableMelodic_disable (s := s.withBus b) he hb']; rfl
  all_goals rw [enableMelodic_stay (he.trans hb.symm), enableMelodic_stay (s := s.withBus b) (he.trans hb'.symm)]

theorem enableNoise_withBus (h : b.AgreesOn s [s.map.aInt .noise]) :
    enableNoise (s.withBus b) = (enableNoise s).withBus b := by
  have hbyte : (s.withBus b).intByte .noise = s.intByte .noise := h _ List.mem_cons_self
  cases he : (s.chan .noise).enabled <;> cases hb : intEn (s.intByte .noise)
  all_goals have hb' := (congrArg intEn hbyte).trans hb
  case false.true =>
    rw [enableNoise_enable he hb, enableNoise_enable (s := s.withBus b) he hb', hbyte, armInterval_withBus]
    rfl
  case true.false => rw [enableNoise_disable he hb, enableNoise_disable (s := s.withBus b) he hb']; rfl
  all_goals rw [enableNoise_stay (he.trans hb.symm), enableNoise_stay (s := s.withBus b) (he.trans hb'.symm)]

theorem volPan_withBus {x : Chan} (h : b.AgreesOn s [s.map.aLrv x, s.map.aEv0 x]) :
    volPan x (s.withBus b) = (volPan x s).withBus b := by
  have hlrv : (s.withBus b).lrvByte x = s.lrvByte x := h (s.map.aLrv x) (by simp)
  have hev0 : (s.withBus b).ev0Byte x = s.ev0Byte x := h (s.map.aEv0 x) (by simp)
  rw [volPan_eq, volPan_eq, hlrv, hev0]
  rfl

theorem envelope_withBus {x : Chan} (h : b.AgreesOn s (envelopeReads s x)) :
    envelope x (s.withBus b) = (envelope x s).withBus b := by
  have hev0 : (s.withBus b).ev0Byte x = s.ev0Byte x := h (s.map.aEv0 x) (by simp [envelopeReads])
  cases he : ev0En (s.ev0Byte x) with
  | false => rw [envelope_closed he, envelope_closed (hev0.symm ▸ he)]; rfl
  | true =>
    have hev1 : (s.withBus b).ev1Byte x = s.ev1Byte x := h _ (aEv1_mem_envelopeReads he)
    rw [envelope_open he, envelope_open (hev0.symm ▸ he), hev1]; rfl

/-- Both level engines: what the first leaves in memory, the second reads. -/
theorem levels_withBus {x : Chan} (h : b.AgreesOn s (envelopeReads s x)) :
    envelope x (volPan x (s.withBus b)) = (envelope x (volPan x s)).withBus b := by
  have hvolPan : b.AgreesOn (volPan x s) (envelopeReads (volPan x s) x) := h.of_env rfl
  rw [volPan_withBus (h.mono (by simp [envelopeReads])), envelope_withBus hvolPan]

theorem sweep_withBus (h : b.AgreesOn s (sweepReads s)) : sweep (s.withBus b) = (sweep s).withBus b := by
  have hev1 : (s.withBus b).ev1Byte .full = s.ev1Byte .full := h (s.map.aEv1 .full) (by simp [sweepReads])
  cases hrun : ev1SwpEn (s.ev1Byte .full) && !ev1Mod (s.ev1Byte .full) with
  | false => rw [sweep_quiet hrun, sweep_quiet (hev1.symm ▸ hrun), hev1]; rfl
  | true =>
    have hswp : (s.withBus b).swpByte = s.swpByte := h _ (swp_mem_sweepReads hrun)
    rw [sweep_run hrun, sweep_run (hev1.symm ▸ hrun), hev1, hswp]; rfl

theorem noiseSelect_withBus (h : b.AgreesOn s [s.map.aEv1 .noise]) :
    noiseSelect (s.withBus b) = (noiseSelect s).withBus b := by
  have hev1 : (s.withBus b).ev1Byte .noise = s.ev1Byte .noise := h _ List.mem_cons_self
  by_cases hn : ev1Nsel (s.ev1Byte .noise) = s.blk.nsel.active
  · rw [noiseSelect_same hn, noiseSelect_same (s := s.withBus b) (hev1.symm ▸ hn)]
  · rw [noiseSelect_switch hn, noiseSelect_switch (s := s.withBus b) (hev1.symm ▸ hn), hev1]; rfl

theorem freq_withBus {x : Chan} (h : b.AgreesOn s [s.map.aFql x, s.map.aFqh x]) :
    freq x (s.withBus b) = (freq x s).withBus b := by
  have hfql : (s.withBus b).fqlByte x = s.fqlByte x := h (s.map.aFql x) (by simp)
  have hfqh : (s.withBus b).fqhByte x = s.fqhByte x := h (s.map.aFqh x) (by simp)
  rw [freq_eq, freq_eq, hfql, hfqh]
  rfl

/-- The row of S5EV1: its reads hold those of the envelope and of the sweep (20_memory.md R66). -/
theorem fullRow_withBus (h : b.AgreesOn s ([s.map.aLrv .full, s.map.aEv0 .full] ++ sweepReads s)) :
    sweep (envelope .full (volPan .full (s.withBus b))) = (sweep (envelope .full (volPan .full s))).withBus b := by
  have hlevels : b.AgreesOn s (envelopeReads s .full) :=
    h.mono (List.Subset.trans (envelopeReads_subset .full s) (by simp [sweepReads]))
  have henv := (levels_effect (V := Set.univ) .full s trivial).env
  have hsweep : b.AgreesOn (envelope .full (volPan .full s)) (sweepReads (envelope .full (volPan .full s))) := by
    rw [sweepReads_of_env henv]
    exact (h.mono (by simp)).of_env henv
  rw [levels_withBus hlevels, sweep_withBus hsweep]

/-- The row of S6EV1: SxEV1 is read for the noise selector already. -/
theorem noiseRow_withBus (h : b.AgreesOn s [s.map.aEv1 .noise, s.map.aLrv .noise, s.map.aEv0 .noise]) :
    envelope .noise (volPan .noise (noiseSelect (s.withBus b))) =
      (envelope .noise (volPan .noise (noiseSelect s))).withBus b := by
  have henv := (noiseSelect_effect (V := Set.univ) s trivial trivial).env
  have hlevels : b.AgreesOn (noiseSelect s) (envelopeReads (noiseSelect s) .noise) := by
    rw [envelopeReads_of_env henv]
    exact (h.mono (List.Subset.trans (envelopeReads_subset .noise s) (by simp))).of_env henv
  rw [noiseSelect_withBus (h.mono (by simp)), levels_withBus hlevels]

end

/-! ## Each row -/

@[simp] theorem reads_ramOf (m : Mel) (s : State) : reads (.ramOf m) s = ramReads s m := by cases m <;> rfl

@[simp] theorem reads_intOf_mel (m : Mel) (s : State) : reads (.intOf (.mel m)) s = intReads s m := by cases m <;> rfl

@[simp] theorem reads_lrvOf (x : Chan) (s : State) : reads (.lrvOf x) s = [s.map.aLrv x, s.map.aEv0 x] := by
  rcases x with (_ | _ | _ | _ | _) | _ <;> rfl

@[simp] theorem reads_ev0Of (x : Chan) (s : State) : reads (.ev0Of x) s = envelopeReads s x := by
  rcases x with (_ | _ | _ | _ | _) | _ <;> rfl

theorem reads_ev1Of_mel {m : Mel} (h : m ≠ .ch5) (s : State) :
    reads (.ev1Of (.mel m)) s = envelopeReads s (.mel m) := by
  cases m
  case ch5 => exact absurd rfl h
  all_goals rfl

@[simp] theorem reads_fqlOf (x : Chan) (s : State) : reads (.fqlOf x) s = [s.map.aFql x, s.map.aFqh x] := by
  rcases x with (_ | _ | _ | _ | _) | _ <;> rfl

@[simp] theorem reads_fqhOf (x : Chan) (s : State) : reads (.fqhOf x) s = [s.map.aFql x, s.map.aFqh x] := by
  rcases x with (_ | _ | _ | _ | _) | _ <;> rfl

/-- A row over a memory with the same bytes where it reads does the same. -/
theorem exec_withBus {i : Instr} {s t : State} {b : Memory} (h : exec i s = .next t) (hb : b.AgreesOn s (reads i s)) :
    exec i (s.withBus b) = .next (t.withBus b) := by
  rcases exec_cases i s with ⟨k, off, rfl, h'⟩ | ⟨off, rfl, h'⟩ | ⟨m, rfl, h'⟩ | ⟨m, rfl, h'⟩ | ⟨rfl, h'⟩ |
    ⟨x, rfl, h'⟩ | ⟨x, hi, h'⟩ | ⟨rfl, h'⟩ | ⟨rfl, h'⟩ | ⟨rfl, h'⟩ | ⟨x, hi, h'⟩ | ⟨rfl, h'⟩ | ⟨a, rfl, h'⟩ <;>
    cases h'.symm.trans h
  · rw [exec_waveOf]; rfl
  · rfl
  · rw [reads_ramOf] at hb
    rw [exec_ramOf, waveSel_withBus hb]
  · rw [reads_intOf_mel] at hb
    rw [exec_intOf_mel, enableMelodic_withBus hb]
  · rw [exec_intOf_noise, enableNoise_withBus hb]
  · rw [reads_lrvOf] at hb
    rw [exec_lrvOf, volPan_withBus hb]
  · rcases hi with rfl | ⟨rfl, hfull, hnoise⟩
    · rw [reads_ev0Of] at hb
      rw [exec_ev0Of, levels_withBus hb]
    · cases x with
      | mel m =>
        have hm : m ≠ .ch5 := fun e => hfull (congrArg Chan.mel e)
        rw [reads_ev1Of_mel hm] at hb
        rw [exec_ev1Of_mel hm, levels_withBus hb]
      | noise => exact absurd rfl hnoise
  · rw [exec_ev1Of_full, fullRow_withBus hb]
  · rw [exec_ev1Of_noise, noiseRow_withBus hb]
  · exact congrArg Host.Outcome.next (sweep_withBus hb)
  · rcases hi with rfl | rfl
    · rw [reads_fqlOf] at hb
      rw [exec_fqlOf, freq_withBus hb]
    · rw [reads_fqhOf] at hb
      rw [exec_fqhOf, freq_withBus hb]
  · rfl
  · rfl

/-- Settles O40, row family by row family. -/
theorem onlyTheListedBytesMatter : Obligations.OnlyTheListedBytesMatter := by
  intro i s b hb
  obtain ⟨t, h, -⟩ := exec_effect i s
  exact ⟨t, h, exec_withBus h hb⟩

end Sys2Proof.Machine

/-! The address decode and the encoder (30_encoding.md R90, R92, R93): each test of the decode, what a decode can answer,
and that under an allowed configuration it answers exactly the instruction whose address the number is. -/

namespace Sys2Proof

/-! ## The rows of the encoder -/

@[simp] theorem encode_waveOf (cfg : Config) (k : Slot) (off : Nat) :
    encode cfg (.waveOf k off) = cfg.map.aWave k + off := by fin_cases k <;> rfl

@[simp] theorem wf_waveOf (cfg : Config) (k : Slot) (off : Nat) :
    (Instr.waveOf k off).wf cfg = decide (off < waveBytes) := by fin_cases k <;> rfl

/-- The 43 register instructions, in the order of the rows of test (3). -/
def registerInstrs : List Instr :=
  let channels : List Chan := [.mel .ch1, .mel .ch2, .mel .ch3, .mel .ch4, .mel .ch5, .noise]
  [Instr.intOf, .lrvOf, .fqlOf, .fqhOf, .ev0Of, .ev1Of].flatMap channels.map ++
    [.s1ram, .s2ram, .s3ram, .s4ram, .s5ram, .s5swp, .sstop]

/-- A row of test (3) pairs a register instruction with its encoding. -/
theorem regRows_eq_map (cfg : Config) : regRows cfg.map = registerInstrs.map fun i => (encode cfg i, i) := rfl

theorem mem_regRows {cfg : Config} {a : Nat} {i : Instr} :
    (a, i) ∈ regRows cfg.map ↔ i ∈ registerInstrs ∧ encode cfg i = a := by
  simp [regRows_eq_map, and_comm]

theorem wf_of_mem_registerInstrs (cfg : Config) {i : Instr} (h : i ∈ registerInstrs) : i.wf cfg = true :=
  List.all_eq_true.mp (show registerInstrs.all (·.wf cfg) = true from rfl) i h

/-- Every instruction stands for an address of a region, a register, or an undefined address. -/
theorem instr_cases (i : Instr) :
    (∃ k off, i = .waveOf k off) ∨ (∃ off, i = .moddata off) ∨ i ∈ registerInstrs ∨ ∃ a, i = .undef a := by
  cases i with
  | wave0 off => exact .inl ⟨0, off, rfl⟩
  | wave1 off => exact .inl ⟨1, off, rfl⟩
  | wave2 off => exact .inl ⟨2, off, rfl⟩
  | wave3 off => exact .inl ⟨3, off, rfl⟩
  | wave4 off => exact .inl ⟨4, off, rfl⟩
  | moddata off => exact .inr (.inl ⟨off, rfl⟩)
  | undef a => exact .inr (.inr (.inr ⟨a, rfl⟩))
  | _ => exact .inr (.inr (.inl (by decide)))

/-! ## The tests of the decode -/

section

variable {m : AddrMap} {a : Nat}

theorem inWave_iff {k : Slot} : m.inWave k a = true ↔ m.aWave k ≤ a ∧ a < m.aWave k + waveBytes := by
  simp [AddrMap.inWave]

theorem inMod_iff : m.inMod a = true ↔ m.modFirst ≤ a ∧ a < m.modFirst + m.modBytes := by
  simp [AddrMap.inMod]

theorem inRegion_eq_false_iff : m.inRegion a = false ↔ (∀ k, m.inWave k a = false) ∧ m.inMod a = false := by
  simp [AddrMap.inRegion, mem_allSlots]

theorem isReg_eq_false_iff : m.isReg a = false ↔ a ∉ m.regAddrs := by
  simp [AddrMap.isReg]

theorem mapped_eq_false_iff : m.mapped a = false ↔ m.inRegion a = false ∧ m.isReg a = false := by
  simp [AddrMap.mapped]

/-- Test (1) answers a slot whose region holds the address. -/
theorem inWave_of_waveSlotAt {k : Slot} (h : waveSlotAt m a = some k) : m.inWave k a = true :=
  List.find?_some (p := fun j => m.inWave j a) h

theorem waveSlotAt_eq_none_iff : waveSlotAt m a = none ↔ ∀ k, m.inWave k a = false := by
  simp [waveSlotAt, mem_allSlots]

/-- Test (3) answers a row of the table. -/
theorem mem_regRows_of_regAt {i : Instr} (h : regAt m a = some i) : (a, i) ∈ regRows m := by
  obtain ⟨⟨b, j⟩, hfind, rfl⟩ := Option.map_eq_some_iff.mp h
  obtain rfl : b = a := by simpa using List.find?_some hfind
  exact List.mem_of_find?_eq_some hfind

theorem regAt_eq_none_iff : regAt m a = none ↔ m.isReg a = false := by
  simp only [regAt, Option.map_eq_none_iff, List.find?_eq_none, beq_iff_eq, isReg_eq_false_iff, AddrMap.regAddrs,
    List.mem_map, not_exists, not_and]

/-- With distinct register addresses, test (3) finds the row of the address. -/
theorem regAt_eq_some {i : Instr} (hnodup : m.regAddrs.Nodup) (h : (a, i) ∈ regRows m) : regAt m a = some i := by
  cases hr : regAt m a with
  | none => exact absurd (List.mem_map_of_mem h) (isReg_eq_false_iff.mp (regAt_eq_none_iff.mp hr))
  | some j =>
    have hrow : (a, j) = (a, i) := List.inj_on_of_nodup_map hnodup (mem_regRows_of_regAt hr) h rfl
    rw [(Prod.mk.inj hrow).2]

end

/-! ## The decode -/

section

variable {cfg : Config} {a : Nat}

/-- What a decode can answer (30_encoding.md R93), whatever the configuration. -/
theorem decode_ok_cases {i : Instr} (h : decode cfg a = .ok i) :
    (∃ k, cfg.map.inWave k a = true ∧ i = .waveOf k (a - cfg.map.aWave k)) ∨
    (cfg.map.inMod a = true ∧ i = .moddata (a - cfg.map.modFirst)) ∨
    (a, i) ∈ regRows cfg.map ∨
    (cfg.map.mapped a = false ∧ i = .undef a) := by
  have ha := Machine.lt_of_decode_ok h
  rw [decode, if_neg ha.not_ge] at h
  split at h
  case h_1 k hk => cases h; exact .inl ⟨k, inWave_of_waveSlotAt hk, rfl⟩
  case h_2 hwave =>
    split at h
    case isTrue hmod => cases h; exact .inr (.inl ⟨hmod, rfl⟩)
    case isFalse hmod =>
      split at h
      case h_1 hreg => cases h; exact .inr (.inr (.inl (mem_regRows_of_regAt hreg)))
      case h_2 hreg =>
        cases h
        have hregion := inRegion_eq_false_iff.mpr ⟨waveSlotAt_eq_none_iff.mp hwave, Bool.eq_false_of_not_eq_true hmod⟩
        exact .inr (.inr (.inr ⟨mapped_eq_false_iff.mpr ⟨hregion, regAt_eq_none_iff.mp hreg⟩, rfl⟩))

/-- Outside the regions the register table decides. -/
theorem decode_of_not_inRegion (ha : a < 2 ^ cfg.addrW) (h : cfg.map.inRegion a = false) :
    decode cfg a = .ok ((regAt cfg.map a).getD (.undef a)) := by
  obtain ⟨hwave, hmod⟩ := inRegion_eq_false_iff.mp h
  rw [decode, if_neg ha.not_ge, waveSlotAt_eq_none_iff.mpr hwave]
  cases hreg : regAt cfg.map a <;> simp [hmod]

theorem decode_undef (ha : a < 2 ^ cfg.addrW) (h : cfg.map.mapped a = false) : decode cfg a = .ok (.undef a) := by
  obtain ⟨hregion, hreg⟩ := mapped_eq_false_iff.mp h
  rw [decode_of_not_inRegion ha hregion, regAt_eq_none_iff.mpr hreg]
  rfl

theorem decode_wave (h : cfg.wf = true) {k : Slot} {off : Nat} (ho : off < waveBytes) :
    decode cfg (cfg.map.aWave k + off) = .ok (.waveOf k off) := by
  obtain ⟨-, hdisjoint, -⟩ := wf_parts h
  have ha : cfg.map.aWave k + off < 2 ^ cfg.addrW := region_lt h (wave_mem_regions cfg.map k) ho
  have hin : cfg.map.inWave k (cfg.map.aWave k + off) = true := inWave_iff.mpr (by omega)
  rw [decode, if_neg ha.not_ge, waveSlotAt_eq hdisjoint hin]
  simp

theorem decode_mod (h : cfg.wf = true) {off : Nat} (ho : off < cfg.map.modBytes) :
    decode cfg (cfg.map.modFirst + off) = .ok (.moddata off) := by
  obtain ⟨-, hdisjoint, -⟩ := wf_parts h
  have ha : cfg.map.modFirst + off < 2 ^ cfg.addrW := region_lt h (mod_mem_regions cfg.map) ho
  have hin : cfg.map.inMod (cfg.map.modFirst + off) = true := inMod_iff.mpr (by omega)
  have hwave : waveSlotAt cfg.map (cfg.map.modFirst + off) = none :=
    waveSlotAt_eq_none_iff.mpr fun k => Bool.eq_false_of_not_eq_true fun hk => wave_not_mod hdisjoint hk hin
  rw [decode, if_neg ha.not_ge, hwave]
  simp [hin]

theorem decode_register (h : cfg.wf = true) {i : Instr} (hi : i ∈ registerInstrs) :
    decode cfg (encode cfg i) = .ok i := by
  obtain ⟨hnodup, -, houtside⟩ := wf_parts h
  have hrow : (encode cfg i, i) ∈ regRows cfg.map := mem_regRows.mpr ⟨hi, rfl⟩
  have haddr : encode cfg i ∈ cfg.map.regAddrs := List.mem_map_of_mem hrow
  rw [decode_of_not_inRegion (reg_lt h haddr) (houtside _ haddr), regAt_eq_some hnodup hrow]
  rfl

end

/-- Settles O1, by the kind of address the instruction stands for. -/
theorem decodeOfEncodeIsTheInstruction : Obligations.DecodeOfEncodeIsTheInstruction := by
  intro cfg i hcfg hi
  rcases instr_cases i with ⟨k, off, rfl⟩ | ⟨off, rfl⟩ | hreg | ⟨a, rfl⟩
  · rw [encode_waveOf]
    exact decode_wave hcfg (by simpa using hi)
  · exact decode_mod hcfg (of_decide_eq_true hi)
  · exact decode_register hcfg hreg
  · obtain ⟨ha, hunmapped⟩ : a < 2 ^ cfg.addrW ∧ cfg.map.mapped a = false := by simpa [Instr.wf] using hi
    exact decode_undef ha hunmapped

/-- Settles O2, by what a decode can answer. -/
theorem encodeOfDecodeIsTheAddress : Obligations.EncodeOfDecodeIsTheAddress := by
  intro cfg a i h
  rcases decode_ok_cases h with ⟨k, hk, rfl⟩ | ⟨hmod, rfl⟩ | hrow | ⟨hunmapped, rfl⟩
  · obtain ⟨hle, hlt⟩ := inWave_iff.mp hk
    rw [wf_waveOf, encode_waveOf]
    exact ⟨decide_eq_true (by omega), by omega⟩
  · obtain ⟨hle, hlt⟩ := inMod_iff.mp hmod
    exact ⟨decide_eq_true (by omega), Nat.add_sub_cancel' hle⟩
  · obtain ⟨hreg, haddr⟩ := mem_regRows.mp hrow
    exact ⟨wf_of_mem_registerInstrs cfg hreg, haddr⟩
  · exact ⟨by simp [Instr.wf, Machine.lt_of_decode_ok h, hunmapped], rfl⟩

/-- Under an allowed configuration, decode and encode are inverse. -/
theorem decode_eq_ok_iff {cfg : Config} (hcfg : cfg.wf = true) {a : Nat} {i : Instr} :
    decode cfg a = .ok i ↔ i.wf cfg = true ∧ encode cfg i = a :=
  ⟨encodeOfDecodeIsTheAddress cfg a i, fun ⟨hi, ha⟩ => ha ▸ decodeOfEncodeIsTheInstruction cfg i hcfg hi⟩

/-- Settles O3. -/
theorem decodeAcceptsExactlyTheAddresses : Obligations.DecodeAcceptsExactlyTheAddresses :=
  fun _ _ => ⟨fun ⟨_, h⟩ => Machine.lt_of_decode_ok h, Machine.decode_total⟩

/-! ## The default map -/

theorem config_default_wf : Config.default.wf = true := Machine.defaultMapIsAllowedAndRegular.1

theorem aWave_default (k : Slot) : Config.default.map.aWave k = 128 * (131072 + k.val) := by fin_cases k <;> rfl

/-- Settles O4: the regions of the default map are aligned blocks of 128 addresses. -/
theorem defaultRegionRowsAreTheirMasks : Obligations.DefaultRegionRowsAreTheirMasks := by
  intro a off _
  refine ⟨fun k => ?_, ?_⟩
  · rw [decode_eq_ok_iff config_default_wf, wf_waveOf, encode_waveOf, aWave_default, decide_eq_true_iff, waveBytes]
    omega
  · have hmod : (Instr.moddata off).wf Config.default = decide (off < 128) := rfl
    have haddr : encode Config.default (.moddata off) = 128 * 131077 + off := rfl
    rw [decode_eq_ok_iff config_default_wf, hmod, haddr, decide_eq_true_iff]
    omega

/-- Settles O5, word by word: each is a closed evaluation of the decoder. -/
theorem tableWordsDecode : Obligations.TableWordsDecode := by
  unfold Obligations.TableWordsDecode
  decide

end Sys2Proof

/-! The writes into the regions (40_waveform_store.md R130, R131). -/

namespace Sys2Proof.Machine

/-- Settles O16, by the decode of a region and the flags after a mark. -/
theorem soundRamWriteMarksItsSlot : Obligations.SoundRamWriteMarksItsSlot := by
  intro k off s
  have hdirty (j : Slot) : (markDirty k s).dirty j = if j = k then true else s.dirty j := dirty_setDirty s k j true
  refine ⟨fun hcfg ho => decode_wave hcfg ho, markDirty k s, exec_waveOf k off s, ?_, fun j hj => ?_, rfl⟩
  · rw [hdirty, if_pos rfl]
  · rw [hdirty, if_neg hj]

/-- The default mask selects every slot. -/
theorem defaultMask_getLsbD (j : Slot) : (0b11111 : BitVec 5).getLsbD j.val = true := by fin_cases j <;> rfl

/-- Settles O17, by the decode of the region and the flags after a masked mark. -/
theorem modulationDataWriteMarksTheMask : Obligations.ModulationDataWriteMarksTheMask := by
  intro off s
  have hdirty := dirty_markMasked s s.env.cfg.modDirtyMask
  refine ⟨fun hcfg ho => decode_mod hcfg ho, markDirtyMod s, exec_moddata off s, hdirty, fun hmask j => ?_, rfl⟩
  rw [markDirtyMod, hdirty, hmask, defaultMask_getLsbD, Bool.or_true]

end Sys2Proof.Machine

/-! The waveform pointer and the recopy of an enable transition (40_waveform_store.md R133 to R136). -/

namespace Sys2Proof

theorem ramOf_mem_registerInstrs (m : Mel) : Instr.ramOf m ∈ registerInstrs := by cases m <;> decide

@[simp] theorem encode_ramOf (cfg : Config) (m : Mel) : encode cfg (.ramOf m) = cfg.map.aRam m := by cases m <;> rfl

end Sys2Proof

namespace Sys2Proof.Machine

/-! ## The conversion formula -/

/-- The mask of the low six bits is redundant: the shift drops the two bits above them. -/
theorem convertSample_eq (b : Byte) : convertSample b = (b <<< 2) ^^^ 0x80#8 := by
  have hshift : b.toNat % 64 * 4 = b.toNat * 4 % 256 := by omega
  apply BitVec.eq_of_toNat_eq
  rw [convertSample_toNat, hshift, BitVec.toNat_xor, BitVec.toNat_shiftLeft, Nat.shiftLeft_eq]
  rfl

/-- Two bytes convert alike only if their low six bits agree. -/
theorem mod_eq_of_convertSample_eq {v w : Byte} (h : convertSample v = convertSample w) :
    v.toNat % 64 = w.toNat % 64 := by
  have hint := congrArg BitVec.toInt h
  rw [convertSample_toInt, convertSample_toInt] at hint
  omega

/-! ## The recopy of an enable transition -/

/-- An enable transition leaves the channel's slot clean (41_channel_enable.md R151): steps (b) to (d) write no flag. -/
theorem enableMelodic_clean {m : Mel} {s : State} (he : (s.chan (.mel m)).enabled = false)
    (hb : intEn (s.intByte (.mel m)) = true) : (enableMelodic m s).dirty (s.waveIndex m) = false := by
  have htail := enableTail_writes (W := { .chan (.mel m) .enabled, .chan (.mel m) .interval }) (.inl rfl) (.inr rfl)
    (s.intByte (.mel m)) (uploadIfDirty m s)
  rw [enableMelodic_enable he hb]
  exact Eq.trans (htail (.dirty (s.waveIndex m)) (by simp)) (uploadIfDirty_clean m s)

/-- An enable transition of a channel whose slot is dirty recopies it, since only a recopy clears a flag. -/
theorem enableMelodic_recopies {m : Mel} {s : State} (he : (s.chan (.mel m)).enabled = false)
    (hb : intEn (s.intByte (.mel m)) = true) (hd : s.dirty (s.waveIndex m) = true) :
    Recopies m (s.waveIndex m) s (enableMelodic m s) :=
  (enableMelodic_dirty m (s.waveIndex m) s).resolve_left fun hsame =>
    absurd ((enableMelodic_clean he hb).symm.trans (hsame.trans hd)) (by decide)

/-- Settles O19: injectivity by the signed value of a sample, the upload by the recopy of the enable transition. -/
theorem conversionAndEnableUpload : Obligations.ConversionAndEnableUpload := by
  refine ⟨fun v _ => convertSample_eq v, fun v w hv hw h => BitVec.eq_of_toNat_eq ?_, fun m s he hb hd => ?_⟩
  · have hmod := mod_eq_of_convertSample_eq h
    omega
  · have hen : intEn (s.intByte (.mel m)) = true := (intEn_eq_le _).trans (decide_eq_true hb)
    have hrecopy := enableMelodic_recopies he hen hd
    obtain ⟨cs, hcs⟩ := hrecopy.upload
    exact ⟨enableMelodic m s, _, exec_intOf_mel m s, hrecopy.clear, hcs, List.mem_cons_self⟩

/-! ## The waveform pointer -/

theorem legalIndex_eq_some {w : BitVec 4} {k : Slot} (h : w.toNat = k.val) : legalIndex w = some k := by
  simp [legalIndex, h]

theorem legalIndex_eq_none {w : BitVec 4} (h : 5 ≤ w.toNat) : legalIndex w = none := dif_neg h.not_gt

/-- Settles O20, by the decode of a register and the two cases of `WaveSel` with a legal index. -/
theorem legalPointerWrite : Obligations.LegalPointerWrite := by
  intro m s w hw
  have hlegal : legalIndex (ramWidx (s.ramByte m)) = some w := legalIndex_eq_some ((ramWidx_eq _).trans hw)
  refine ⟨fun hcfg => ?_, fun he => ?_, fun he => ?_⟩
  · have hdecode := decode_register hcfg (ramOf_mem_registerInstrs m)
    rwa [encode_ramOf] at hdecode
  · rw [exec_ramOf, waveSel_disabled hlegal he]
  · rw [exec_ramOf, waveSel_enabled hlegal he]

/-- Settles O21, by the case of `WaveSel` without a legal index. -/
theorem outOfRangePointerIsIgnored : Obligations.OutOfRangePointerIsIgnored := by
  intro m s h
  have hillegal : legalIndex (ramWidx (s.ramByte m)) = none := legalIndex_eq_none (by rwa [ramWidx_eq])
  rw [exec_ramOf, waveSel_illegal hillegal]

end Sys2Proof.Machine

/-! The channel enable machine (41_channel_enable.md R150 to R156; 70_reset_and_hazards.md R333). -/

namespace Sys2Proof

theorem intOf_mem_registerInstrs (x : Chan) : Instr.intOf x ∈ registerInstrs := by
  rcases x with (_ | _ | _ | _ | _) | _ <;> decide

@[simp] theorem encode_intOf (cfg : Config) (x : Chan) : encode cfg (.intOf x) = cfg.map.aInt x := by
  rcases x with (_ | _ | _ | _ | _) | _ <;> rfl

theorem decode_aInt {cfg : Config} (h : cfg.wf = true) (x : Chan) : decode cfg (cfg.map.aInt x) = .ok (.intOf x) := by
  have hdecode := decode_register h (intOf_mem_registerInstrs x)
  rwa [encode_intOf] at hdecode

end Sys2Proof

namespace Sys2Proof.Machine

/-! ## The three cases -/

/-- Bit 7 set, by value. -/
theorem intEn_of_div_eq_one {b : Byte} (h : b.toNat / 128 = 1) : intEn b = true :=
  (intEn_eq b).trans (decide_eq_true h)

/-- Bit 7 clear, by value. -/
theorem intEn_of_div_eq_zero {b : Byte} (h : b.toNat / 128 = 0) : intEn b = false := by
  rw [intEn_eq, h]
  rfl

/-- SxINT does nothing, on every channel, if bit 7 is the channel's state already (41_channel_enable.md R156). -/
theorem exec_intOf_stay {x : Chan} {s : State} (h : (s.chan x).enabled = intEn (s.intByte x)) :
    exec (.intOf x) s = .next s := by
  cases x with
  | mel m => rw [exec_intOf_mel, enableMelodic_stay h]
  | noise => rw [exec_intOf_noise, enableNoise_stay h]

/-- Steps (b) to (d) of an enable transition and the new state (41_channel_enable.md R152 to R154): one record, and the
channel's commands in order. -/
theorem enableTail_eq (x : Chan) (b : Byte) (s : State) :
    let T : Rat := 96 / 25 * ((b.toNat % 32 : Nat) + 1 : Rat)
    (startFromZero x (armInterval x b s)).setEnabled x true =
      (s.setChan x { s.chan x with
        enabled := true
        sweep := { (s.chan x).sweep with
          intervalTime := if b.toNat / 32 % 2 = 1 then T else (s.chan x).sweep.intervalTime } }).emits
        ((if b.toNat / 32 % 2 = 1 then [.sweepFreq (s.voice x) T s.env.sample.freq] else []) ++
          [.setPos (s.voice x) 0, .start (s.voice x)]) := by
  intro T
  have hT : intervalDuration b = T := intervalDuration_eq b
  rw [startFromZero_eq, armInterval_voice, armInterval_eq, hT, intIe_eq]
  by_cases hie : b.toNat / 32 % 2 = 1 <;> simp [hie, State.setEnabled]

/-- Step (a) as one update and one list of commands, each empty when the slot is clean (41_channel_enable.md R151). -/
theorem uploadIfDirty_eq_emits (m : Mel) (s : State) :
    uploadIfDirty m s =
      (if s.dirty (s.waveIndex m) then s.setDirty (s.waveIndex m) false else s).emits
        (if s.dirty (s.waveIndex m) then [.upload (.V m) (convert (s.waveIndex m) s)] else []) := by
  rw [uploadIfDirty_eq]
  split
  · rfl
  · exact (emits_nil s).symm

/-- Step (a) leaves the channel records. -/
theorem uploadIfDirty_chan (m : Mel) (x : Chan) (s : State) : (uploadIfDirty m s).chan x = s.chan x := by
  rw [uploadIfDirty_eq]
  split <;> rfl

/-- Step (a) leaves the surroundings. -/
theorem uploadIfDirty_env (m : Mel) (s : State) : (uploadIfDirty m s).env = s.env :=
  (uploadIfDirty_effect (V := Set.univ) m s trivial).env

/-- Settles O25: step (a), then the tail of the transition; the other two cases are those of the enable machine. -/
theorem melodicEnableMachine : Obligations.MelodicEnableMachine := by
  intro m s x b c k T
  refine ⟨fun hcfg => decode_aInt hcfg x, fun he hb => ?_, fun he hb => ?_, fun he => ?_⟩
  · rw [exec_intOf_mel, enableMelodic_enable he (intEn_of_div_eq_one hb), enableTail_eq, uploadIfDirty_chan,
      uploadIfDirty_env, uploadIfDirty_eq_emits, setChan_emits, emits_emits, List.append_assoc]
    rfl
  · rw [exec_intOf_mel, enableMelodic_disable he (intEn_of_div_eq_zero hb)]
    rfl
  · exact exec_intOf_stay (he.trans (intEn_eq _).symm)

/-- Settles O26: the tail of the transition, with the selected noise voice, and `nsel.playing` after it. -/
theorem noiseEnableMachine : Obligations.NoiseEnableMachine := by
  intro s b c v T
  have hexec : exec .s6int s = .next (enableNoise s) := exec_intOf_noise s
  refine ⟨fun hcfg => decode_aInt hcfg .noise, fun he hb => ?_, fun he hb => ?_, fun he => ?_⟩
  · rw [hexec, enableNoise_enable he (intEn_of_div_eq_one hb), enableTail_eq, setPlaying_emits]
    rfl
  · rw [hexec, enableNoise_disable he (intEn_of_div_eq_zero hb)]
    rfl
  · exact exec_intOf_stay (x := .noise) (he.trans (intEn_eq _).symm)

/-! ## No retrigger -/

/-- Settles O28: a global stop appends commands alone, so channel and byte still agree after it. -/
theorem noRetriggerAfterGlobalStop : Obligations.NoRetriggerAfterGlobalStop := by
  intro x s t he hb h
  obtain rfl : stopAll s = t := by injection h
  rw [stopAll_eq]
  have hen : intEn (s.intByte x) = true := (intEn_eq_le _).trans (decide_eq_true hb)
  exact ⟨he, exec_intOf_stay (he.trans hen.symm)⟩

end Sys2Proof.Machine

/-! The volume and pan derivation (42_volume_pan.md R170 to R174). -/

namespace Sys2Proof

theorem lrvOf_mem_registerInstrs (x : Chan) : Instr.lrvOf x ∈ registerInstrs := by
  rcases x with (_ | _ | _ | _ | _) | _ <;> decide

@[simp] theorem encode_lrvOf (cfg : Config) (x : Chan) : encode cfg (.lrvOf x) = cfg.map.aLrv x := by
  rcases x with (_ | _ | _ | _ | _) | _ <;> rfl

theorem decode_aLrv {cfg : Config} (h : cfg.wf = true) (x : Chan) : decode cfg (cfg.map.aLrv x) = .ok (.lrvOf x) := by
  have hdecode := decode_register h (lrvOf_mem_registerInstrs x)
  rwa [encode_lrvOf] at hdecode

end Sys2Proof

namespace Sys2Proof.Machine

/-- The derived pan is central exactly when the two nibbles are equal (42_volume_pan.md R172). -/
theorem derivedPan_eq_center_iff (b : Byte) :
    (derivedPan (lrvLeft b) (lrvRight b)).val = 128 ↔ b.toNat / 16 = b.toNat % 16 := by
  rw [(derivedPan_range _ _).2.2, lrvLeft_eq, lrvRight_eq]

/-- Settles O29: SxLRV is `VolPan(x)`; its volume and pan are the rules' own, in the ranges of the derivations. -/
theorem levelWriteDerivesVolumeAndPan : Obligations.LevelWriteDerivesVolumeAndPan := by
  intro x s
  let b := s.lrvByte x
  have hvolume := volumeNat_le (lrvLeft b ||| lrvRight b) (ev0Level (s.ev0Byte x))
  obtain ⟨hlow, hhigh, -⟩ := derivedPan_range (lrvLeft b) (lrvRight b)
  exact ⟨_, _, nominalVolume_eq b (s.ev0Byte x), derivedPan_eq b, hvolume, hlow, hhigh, derivedPan_eq_center_iff b,
    fun hcfg => decode_aLrv hcfg x, by rw [exec_lrvOf, volPan_eq]⟩

end Sys2Proof.Machine

/-! The envelope ramp calculator (43_envelope.md R190 to R194). -/

namespace Sys2Proof

theorem ev0Of_mem_registerInstrs (x : Chan) : Instr.ev0Of x ∈ registerInstrs := by
  rcases x with (_ | _ | _ | _ | _) | _ <;> decide

theorem ev1Of_mem_registerInstrs (x : Chan) : Instr.ev1Of x ∈ registerInstrs := by
  rcases x with (_ | _ | _ | _ | _) | _ <;> decide

@[simp] theorem encode_ev0Of (cfg : Config) (x : Chan) : encode cfg (.ev0Of x) = cfg.map.aEv0 x := by
  rcases x with (_ | _ | _ | _ | _) | _ <;> rfl

@[simp] theorem encode_ev1Of (cfg : Config) (x : Chan) : encode cfg (.ev1Of x) = cfg.map.aEv1 x := by
  rcases x with (_ | _ | _ | _ | _) | _ <;> rfl

theorem decode_aEv0 {cfg : Config} (h : cfg.wf = true) (x : Chan) : decode cfg (cfg.map.aEv0 x) = .ok (.ev0Of x) := by
  have hdecode := decode_register h (ev0Of_mem_registerInstrs x)
  rwa [encode_ev0Of] at hdecode

theorem decode_aEv1 {cfg : Config} (h : cfg.wf = true) (x : Chan) : decode cfg (cfg.map.aEv1 x) = .ok (.ev1Of x) := by
  have hdecode := decode_register h (ev1Of_mem_registerInstrs x)
  rwa [encode_ev1Of] at hdecode

end Sys2Proof

namespace Sys2Proof.Machine

/-- The volume `VolPan(x)` derives from the bytes in memory (42_volume_pan.md R171). -/
def State.levelVolume (s : State) (x : Chan) : Fin 256 :=
  nominalVolume (lrvLeft (s.lrvByte x) ||| lrvRight (s.lrvByte x)) (ev0Level (s.ev0Byte x))

/-- The pan `VolPan(x)` derives from the byte in memory (42_volume_pan.md R172). -/
def State.levelPan (s : State) (x : Chan) : Fin 256 := derivedPan (lrvLeft (s.lrvByte x)) (lrvRight (s.lrvByte x))

theorem levelVolume_eq (s : State) (x : Chan) :
    (s.levelVolume x).val = ruleVolume (s.lrvByte x).toNat (s.ev0Byte x).toNat := nominalVolume_eq _ _

theorem levelPan_eq (s : State) (x : Chan) : ((s.levelPan x).val : Int) = rulePan (s.lrvByte x).toNat :=
  derivedPan_eq _

theorem volPan_eq_levels (x : Chan) (s : State) :
    volPan x s = (s.setChan x { s.chan x with volume := s.levelVolume x, pan := s.levelPan x }).emits
      [.setVol (s.voice x) (s.levelVolume x), .setPan (s.voice x) (s.levelPan x)] := volPan_eq x s

/-- SxEV0 of every channel and SxEV1 of CH1..CH4 run the same two engines (43_envelope.md R193, R194). -/
theorem exec_envelopeRow {i : Instr} {x : Chan} (h : i = .ev0Of x ∨ (i = .ev1Of x ∧ x ≠ .full ∧ x ≠ .noise))
    (s : State) : exec i s = .next (envelope x (volPan x s)) := by
  rcases h with rfl | ⟨rfl, hfull, hnoise⟩
  · exact exec_ev0Of x s
  · cases x with
    | mel m => exact exec_ev1Of_mel (fun hm => hfull (congrArg Chan.mel hm)) s
    | noise => exact absurd rfl hnoise

/-- Volume and pan, then the envelope with EV0's bit 0 clear (43_envelope.md R191). -/
theorem levels_closed {x : Chan} {s : State} (h : (s.ev0Byte x).toNat % 2 = 0) :
    envelope x (volPan x s) =
      (s.setChan x { s.chan x with
        volume := s.levelVolume x, pan := s.levelPan x
        envelope := { (s.chan x).envelope with active := false } }).emits
        [.setVol (s.voice x) (s.levelVolume x), .setPan (s.voice x) (s.levelPan x)] := by
  have hgate : ev0En (s.ev0Byte x) = false := by simp [ev0En_eq, h]
  rw [volPan_eq_levels, envelope_closed (by simpa using hgate)]
  simp

/-- Volume and pan, then the envelope with EV0's bit 0 set: its ramp starts from the sampled volume, not from the volume
just stored (43_envelope.md R192). -/
theorem levels_open {x : Chan} {s : State} (h : (s.ev0Byte x).toNat % 2 = 1) :
    envelope x (volPan x s) =
      (s.setChan x { s.chan x with
        volume := s.levelVolume x, pan := s.levelPan x
        envelope :=
          { active := true, growing := decide ((s.ev1Byte x).toNat / 8 % 2 = 1)
            stepTime := 384 / 25 * (((s.ev1Byte x).toNat % 8 : Nat) + 1 : Rat)
            currentLevel := s.env.sample.vol } }).emits
        [.setVol (s.voice x) (s.levelVolume x), .setPan (s.voice x) (s.levelPan x),
         .rampVol (s.voice x) (if decide ((s.ev1Byte x).toNat / 8 % 2 = 1) then 255 else 0)
          (ruleRamp s.env.cfg.div16Floor (s.ev1Byte x).toNat s.env.sample.vol.val)] := by
  have hgate : ev0En (s.ev0Byte x) = true := by simp [ev0En_eq, h]
  rw [volPan_eq_levels, envelope_open (by simpa using hgate)]
  simp [ev1Grow_eq, envelopeStep_eq, rampDuration_eq, rampTarget]

/-- Settles O30: both rows run `VolPan(x)`, then `Envelope(x)`; EV0's bit 0 says which of the two cases. -/
theorem envelopeRegisterWrite : Obligations.EnvelopeRegisterWrite := by
  intro i x s hi
  refine ⟨fun hcfg => ⟨decode_aEv0 hcfg x, decode_aEv1 hcfg x⟩, s.levelVolume x, s.levelPan x, levelVolume_eq s x,
    levelPan_eq s x, fun hclosed => ?_, fun hopen => ?_⟩
  · rw [exec_envelopeRow hi, levels_closed hclosed]
  · rw [exec_envelopeRow hi, levels_open hopen]

end Sys2Proof.Machine

/-! The sweep of CH5 (44_sweep.md R211 to R216). -/

namespace Sys2Proof

theorem decode_swp {cfg : Config} (h : cfg.wf = true) : decode cfg cfg.map.swp = .ok .s5swp :=
  decode_register (i := .s5swp) h (by decide)

end Sys2Proof

namespace Sys2Proof.Machine

/-- The commands of the sweep unit: one sweep with S5EV1's master bit set and its modulation bit clear, by the rules of
the duration and the target; otherwise none (44_sweep.md R211 to R214). -/
def State.sweepCmds (s : State) : List Cmd :=
  if (s.ev1Byte .full).toNat / 64 % 2 = 1 ∧ (s.ev1Byte .full).toNat / 16 % 2 = 0 then
    [.sweepFreq (.V .ch5) (ruleSweep s.swpByte.toNat (s.chan .full).frequencyReg.val)
      (if s.swpByte.toNat / 8 % 2 = 1 then 500000 else 78125 / 32)]
  else []

theorem sweepCmds_of_run {s : State}
    (h : (s.ev1Byte .full).toNat / 64 % 2 = 1 ∧ (s.ev1Byte .full).toNat / 16 % 2 = 0) :
    s.sweepCmds = [.sweepFreq (.V .ch5) (ruleSweep s.swpByte.toNat (s.chan .full).frequencyReg.val)
      (if s.swpByte.toNat / 8 % 2 = 1 then 500000 else 78125 / 32)] := if_pos h

theorem sweepCmds_of_quiet {s : State}
    (h : ¬ ((s.ev1Byte .full).toNat / 64 % 2 = 1 ∧ (s.ev1Byte .full).toNat / 16 % 2 = 0)) :
    s.sweepCmds = [] := if_neg h

/-- The gate of the sweep unit, by value (44_sweep.md R211). -/
theorem sweepGate_eq (b : Byte) :
    (ev1SwpEn b && !ev1Mod b) = decide (b.toNat / 64 % 2 = 1 ∧ b.toNat / 16 % 2 = 0) := by
  rw [ev1SwpEn_eq, ev1Mod_eq, ← decide_not, ← Bool.decide_and]
  simp

/-- The gate bits of S5EV1, by value (44_sweep.md R211). -/
theorem setSweepGate_eq (s : State) (b : Byte) :
    s.setSweepGate b = s.setChan .full { s.chan .full with sweep := { (s.chan .full).sweep with
      active := decide (b.toNat / 64 % 2 = 1), isModulation := decide (b.toNat / 16 % 2 = 1) } } := by
  rw [State.setSweepGate, ev1SwpEn_eq, ev1Mod_eq]

/-- The sweep unit in every mode: two shadow bits, then its commands (44_sweep.md R211 to R214). -/
theorem sweep_eq (s : State) :
    sweep s = (s.setChan .full { s.chan .full with sweep := { (s.chan .full).sweep with
      active := decide ((s.ev1Byte .full).toNat / 64 % 2 = 1)
      isModulation := decide ((s.ev1Byte .full).toNat / 16 % 2 = 1) } }).emits s.sweepCmds := by
  rw [← setSweepGate_eq]
  by_cases h : (s.ev1Byte .full).toNat / 64 % 2 = 1 ∧ (s.ev1Byte .full).toNat / 16 % 2 = 0
  · rw [sweep_run ((sweepGate_eq _).trans (decide_eq_true h)), sweepCmds_of_run h, sweepDuration_eq, sweepTarget_eq]
  · rw [sweep_quiet ((sweepGate_eq _).trans (decide_eq_false h)), sweepCmds_of_quiet h, emits_nil]

/-- Settles O31: S5SWP is the sweep unit alone, with its commands in sweep mode and outside it. -/
theorem sweepControlWrite : Obligations.SweepControlWrite := by
  intro s c e w s'
  have hexec : exec .s5swp s = .next (s'.emits s.sweepCmds) := congrArg Host.Outcome.next (sweep_eq s)
  refine ⟨decode_swp, fun hquiet => ?_, fun hrun => ?_⟩
  · rw [hexec, sweepCmds_of_quiet hquiet, emits_nil]
  · rw [hexec, sweepCmds_of_run hrun]

/-- Volume and pan, then the envelope, in both cases of EV0's bit 0 (43_envelope.md R191, R192). -/
theorem levels_eq (x : Chan) (s : State) :
    envelope x (volPan x s) =
      (s.setChan x { s.chan x with
        volume := s.levelVolume x, pan := s.levelPan x
        envelope := if (s.ev0Byte x).toNat % 2 = 1 then
            { active := true, growing := decide ((s.ev1Byte x).toNat / 8 % 2 = 1)
              stepTime := 384 / 25 * (((s.ev1Byte x).toNat % 8 : Nat) + 1 : Rat)
              currentLevel := s.env.sample.vol }
          else { (s.chan x).envelope with active := false } }).emits
        ([.setVol (s.voice x) (s.levelVolume x), .setPan (s.voice x) (s.levelPan x)] ++
          if (s.ev0Byte x).toNat % 2 = 1 then
            [.rampVol (s.voice x) (if decide ((s.ev1Byte x).toNat / 8 % 2 = 1) then 255 else 0)
              (ruleRamp s.env.cfg.div16Floor (s.ev1Byte x).toNat s.env.sample.vol.val)]
          else []) := by
  rcases Nat.mod_two_eq_zero_or_one (s.ev0Byte x).toNat with hclosed | hopen
  · simp [levels_closed hclosed, hclosed]
  · simp [levels_open hopen, hopen]

/-- The two engines before it leave what the sweep unit's commands depend on: bytes in memory and CH5's frequency
code. -/
theorem sweepCmds_levels (s : State) : (envelope .full (volPan .full s)).sweepCmds = s.sweepCmds := by
  rw [levels_eq]
  simp [State.sweepCmds]

/-- Settles O32: the levels and the envelope, then the sweep on the record they leave. -/
theorem fullChannelEnvelopeWrite : Obligations.FullChannelEnvelopeWrite := by
  intro s
  refine ⟨s.levelVolume .full, s.levelPan .full, levelVolume_eq s .full, levelPan_eq s .full,
    fun hcfg => decode_aEv1 hcfg .full, ?_⟩
  have hexec : exec .s5ev1 s = .next (sweep (envelope .full (volPan .full s))) := exec_ev1Of_full s
  rw [hexec, sweep_eq, sweepCmds_levels, levels_eq, setChan_emits, setChan_setChan, emits_emits, emits_chan,
    chan_setChan_self]
  rfl

end Sys2Proof.Machine

/-! The noise voice selection (45_noise_select.md R230 to R232). -/

namespace Sys2Proof.Machine

/-- The commands of a selection of noise voice `n`: none for the selected voice, otherwise the old voice stops and, if the
channel plays, the new one starts from zero (45_noise_select.md R231). -/
def State.noiseSwitchCmds (s : State) (n : NoiseIx) : List Cmd :=
  if n = s.blk.nsel.active then [] else
    .stop (.N s.blk.nsel.active) :: if s.blk.nsel.playing then [.setPos (.N n) 0, .start (.N n)] else []

theorem noiseSwitchCmds_of_same {s : State} {n : NoiseIx} (h : n = s.blk.nsel.active) : s.noiseSwitchCmds n = [] :=
  if_pos h

theorem noiseSwitchCmds_of_change {s : State} {n : NoiseIx} (h : n ≠ s.blk.nsel.active) :
    s.noiseSwitchCmds n = .stop (.N s.blk.nsel.active) ::
      if s.blk.nsel.playing then [.setPos (.N n) 0, .start (.N n)] else [] := if_neg h

theorem setNoiseActive_self (s : State) : s.setNoiseActive s.blk.nsel.active = s := rfl

/-- The selection, changed or not: the named voice is the selected one after it (45_noise_select.md R231). -/
theorem noiseSelect_eq (s : State) :
    noiseSelect s = (s.setNoiseActive (ev1Nsel (s.ev1Byte .noise))).emits
      (s.noiseSwitchCmds (ev1Nsel (s.ev1Byte .noise))) := by
  by_cases h : ev1Nsel (s.ev1Byte .noise) = s.blk.nsel.active
  · rw [noiseSelect_same h, noiseSwitchCmds_of_same h, h, setNoiseActive_self, emits_nil]
  · rw [noiseSelect_switch h, noiseSwitchCmds_of_change h]

/-- Settles O33: the selection, then the levels and the envelope on the voice it leaves selected. -/
theorem noiseVoiceWrite : Obligations.NoiseVoiceWrite := by
  intro s
  refine ⟨ev1Nsel (s.ev1Byte .noise), s.levelVolume .noise, s.levelPan .noise, ev1Nsel_eq _, levelVolume_eq s .noise,
    levelPan_eq s .noise, fun hcfg => decode_aEv1 hcfg .noise, ?_⟩
  have hexec : exec .s6ev1 s = .next (envelope .noise (volPan .noise (noiseSelect s))) := exec_ev1Of_noise s
  rw [hexec, noiseSelect_eq, levels_eq, setChan_emits, emits_emits, ← List.append_assoc]
  rfl

end Sys2Proof.Machine

/-! The frequency conversion (46_frequency.md R245 to R248). -/

namespace Sys2Proof

theorem fqlOf_mem_registerInstrs (x : Chan) : Instr.fqlOf x ∈ registerInstrs := by
  rcases x with (_ | _ | _ | _ | _) | _ <;> decide

theorem fqhOf_mem_registerInstrs (x : Chan) : Instr.fqhOf x ∈ registerInstrs := by
  rcases x with (_ | _ | _ | _ | _) | _ <;> decide

@[simp] theorem encode_fqlOf (cfg : Config) (x : Chan) : encode cfg (.fqlOf x) = cfg.map.aFql x := by
  rcases x with (_ | _ | _ | _ | _) | _ <;> rfl

@[simp] theorem encode_fqhOf (cfg : Config) (x : Chan) : encode cfg (.fqhOf x) = cfg.map.aFqh x := by
  rcases x with (_ | _ | _ | _ | _) | _ <;> rfl

theorem decode_aFql {cfg : Config} (h : cfg.wf = true) (x : Chan) : decode cfg (cfg.map.aFql x) = .ok (.fqlOf x) := by
  have hdecode := decode_register h (fqlOf_mem_registerInstrs x)
  rwa [encode_fqlOf] at hdecode

theorem decode_aFqh {cfg : Config} (h : cfg.wf = true) (x : Chan) : decode cfg (cfg.map.aFqh x) = .ok (.fqhOf x) := by
  have hdecode := decode_register h (fqhOf_mem_registerInstrs x)
  rwa [encode_fqhOf] at hdecode

end Sys2Proof

namespace Sys2Proof.Machine

/-- Both halves of the pair run the same conversion (46_frequency.md R247, R248). -/
theorem exec_frequencyRow {i : Instr} {x : Chan} (h : i = .fqlOf x ∨ i = .fqhOf x) (s : State) :
    exec i s = .next (freq x s) := by
  rcases h with rfl | rfl
  · exact exec_fqlOf x s
  · exact exec_fqhOf x s

/-- Settles O34: both rows run `Freq(x)`; the code it stores and the rate it sends are the rules' own. -/
theorem frequencyWrite : Obligations.FrequencyWrite := by
  intro i x s hi
  refine ⟨fun hcfg => ⟨decode_aFql hcfg x, decode_aFqh hcfg x⟩, freqCode (s.fqhByte x) (s.fqlByte x),
    freqCode_eq _ _, ?_⟩
  rw [exec_frequencyRow hi, freq_eq, rate_eq_ruleRate]

end Sys2Proof.Machine

/-! The gate, the global stop and undefined addresses (47_global.md R260 to R263). -/

namespace Sys2Proof

theorem decode_sstop {cfg : Config} (h : cfg.wf = true) : decode cfg cfg.map.sstop = .ok .sstop :=
  decode_register (i := .sstop) h (by decide)

end Sys2Proof

namespace Sys2Proof.Machine

/-! ## The gate -/

/-- Either input closes the gate (47_global.md R262). -/
theorem gateOpen_eq_false_iff {s : State} : s.gateOpen = false ↔ s.env.sndEn = false ∨ s.blk.failed = true := by
  rw [State.gateOpen, Bool.and_eq_false_iff, Bool.not_eq_false']

/-- A step that runs an instruction found the gate open: a CPU write that comes with the notification does not
open it. -/
theorem gateOpen_of_fetch_run {s u : State} {i : Instr} (h : fetch s = .run i u) : s.gateOpen = true := by
  obtain ⟨a, rest, v, hv, -, hgate, -⟩ := fetch_run h
  rcases hv with ⟨-, rfl⟩ | ⟨b, -, -, rfl⟩ <;> exact hgate

/-- Settles O9: both notifications come to an acceptance behind a closed gate. -/
theorem closedGateStepDoesNothing : Obligations.ClosedGateStepDoesNothing := by
  intro s a rest halive hclosed
  have hgate : s.gateOpen = false := gateOpen_eq_false_iff.mpr hclosed
  refine ⟨fun hi => step_of_quiet ?_, fun v hi ha => step_of_quiet ?_⟩
  · rw [fetch_notify hi]
    exact accept_gated halive hgate
  · rw [fetch_st hi, if_pos ha]
    exact accept_gated halive hgate

/-! ## SSTOP and UNDEF -/

/-- Settles O35, by the decode of a register and the commands of `StopAll`. -/
theorem globalStopOnlyStops : Obligations.GlobalStopOnlyStops := by
  intro s
  have hexec : exec .sstop s = .next (stopAll s) := rfl
  exact ⟨decode_sstop, by rw [hexec, stopAll_eq]⟩

theorem exec_undef (a : Nat) (s : State) : exec (.undef a) s = .next s := rfl

/-- Settles O36: behind a closed gate the notification is ignored; through an open one it decodes to UNDEF, and the step
only takes the feedback sample. -/
theorem undefinedAddressIsIgnored : Obligations.UndefinedAddressIsIgnored := by
  refine ⟨exec_undef, fun s a rest halive hi ha hunmapped => ?_⟩
  cases hgate : s.gateOpen with
  | false =>
    have hstep : step s = .next (s.setInbox rest) := step_of_quiet ((fetch_notify hi).trans (accept_gated halive hgate))
    exact ⟨_, hstep, rfl, rfl, rfl, fun _ => rfl⟩
  | true =>
    have hrun : fetch s = .run (.undef a) (s.setInbox rest).sampleFeedback :=
      (fetch_notify hi).trans (accept_open halive hgate (decode_undef ha hunmapped))
    exact ⟨_, (step_of_run hrun).trans (exec_undef a _), rfl, rfl, rfl, fun _ => rfl⟩

end Sys2Proof.Machine

/-! Failure, shutdown and initialisation (60_exceptions.md R281 to R285; 70_reset_and_hazards.md R310, R323). -/

namespace Sys2Proof.Machine

/-! ## The step of each action of the life cycle -/

section

variable {s : State} {rest : List HostAction}

theorem step_of_refused {r : Refusal} (h : fetch s = .refused r) : step s = .refused r := by
  simp [step, h]

theorem step_shutdown (halive : s.env.alive = true) (hi : s.env.inbox = .shutdown :: rest) :
    step s = .next (s.setInbox rest).shutdown :=
  step_of_quiet ((fetch_cons hi).trans (if_pos halive))

/-- An initialisation of a state that does not exist (70_reset_and_hazards.md R310). -/
theorem step_init {ok : Bool} (hdead : s.env.alive = false) (hi : s.env.inbox = .init ok :: rest) :
    step s = .next ((s.setInbox rest).initialise ok) :=
  step_of_quiet ((fetch_cons hi).trans (if_neg (Bool.eq_false_iff.mp hdead)))

theorem step_init_alive {ok : Bool} (halive : s.env.alive = true) (hi : s.env.inbox = .init ok :: rest) :
    step s = .refused .alreadyInitialised :=
  step_of_refused ((fetch_cons hi).trans (if_pos halive))

theorem accept_dead {a : Nat} (hdead : s.env.alive = false) : accept a s = .refused .afterShutdown := by
  simp [accept, hdead]

end

/-- Settles O48, by the steps of the three actions. -/
theorem lifeCycle : Obligations.LifeCycle := by
  intro s rest
  refine ⟨fun halive hi => ⟨_, step_shutdown halive hi, rfl, rfl, rfl⟩, fun hdead a hi => step_of_refused ?_,
    fun halive ok hi => step_init_alive halive hi⟩
  rw [fetch_notify hi]
  exact accept_dead hdead

/-! ## A failed initialisation -/

/-- Only an initialisation reports (60_exceptions.md R281, R282), and none is an action on a state that exists. -/
theorem fetch_quiet_reports {s t : State} (halive : s.env.alive = true) (h : fetch s = .quiet t) :
    t.env.reports = s.env.reports := by
  cases hi : s.env.inbox with
  | nil => unfold fetch at h; rw [hi] at h; cases h; rfl
  | cons act rest =>
    rw [fetch_cons hi] at h
    cases act <;> simp only [hostAction] at h
    case st a v =>
      split at h
      · rw [eq_of_accept_quiet h]; rfl
      · cases h
    case notify a => rw [eq_of_accept_quiet h]; rfl
    case poke a v => split at h <;> cases h; rfl
    case store a bytes => split at h <;> cases h; rfl
    case fb f => cases h; rfl
    case sndEn on => cases h; rfl
    case shutdown => split at h <;> cases h; rfl
    case init ok => rw [if_pos (show (s.setInbox rest).env.alive = true from halive)] at h; cases h

/-- While the state exists and `failed` is set, the gate is closed to every instruction, and no other action writes the
block, emits or reports (60_exceptions.md R285). -/
theorem step_failed_frame {s t : State} (halive : s.env.alive = true) (hfailed : s.blk.failed = true)
    (h : step s = .next t) : t.blk = s.blk ∧ t.out = s.out ∧ t.env.reports = s.env.reports := by
  rcases step_cases h with hquiet | ⟨i, u, hrun, -⟩
  · obtain ⟨hout, -, hblk | ⟨ok, rest, -, hdead, -⟩⟩ := fetch_quiet hquiet
    · exact ⟨hblk, hout, fetch_quiet_reports halive hquiet⟩
    · exact absurd (halive.symm.trans hdead) (by decide)
  · have hclosed : s.gateOpen = false := gateOpen_eq_false_iff.mpr (.inr hfailed)
    exact absurd ((gateOpen_of_fetch_run hrun).symm.trans hclosed) (by decide)

theorem initialise_reports (s : State) (ok : Bool) :
    (s.initialise ok).env.reports = s.env.reports ++ if ok then [] else [.backendInitFail] := by
  cases ok
  · rfl
  · exact (List.append_nil _).symm

/-- Settles O46: the reset values, what a failed block's step leaves, and the step of an initialisation. -/
theorem failureLastsUntilReinitialisation : Obligations.FailureLastsUntilReinitialisation := by
  refine ⟨fun _ => ⟨rfl, rfl⟩, fun _ _ => step_failed_frame, fun s ok rest hdead hi => ?_⟩
  exact ⟨_, step_init hdead hi, rfl, rfl, rfl, fun _ => rfl, initialise_reports (s.setInbox rest) ok⟩

end Sys2Proof.Machine

/-! Two channels on one dirty slot (70_reset_and_hazards.md R331). -/

namespace Sys2Proof.Machine

theorem uploadIfDirty_of_clean {m : Mel} {s : State} (h : s.dirty (s.waveIndex m) = false) : uploadIfDirty m s = s := by
  rw [uploadIfDirty_eq, h]
  rfl

/-- SxINT of a channel whose slot is clean uploads nothing (41_channel_enable.md R151). -/
theorem enableMelodic_uploads_of_clean {P : Voice → Vector Byte 32 → Prop} {m : Mel} {s : State}
    (h : s.dirty (s.waveIndex m) = false) : UploadsSatisfy P s (enableMelodic m s) := by
  cases hs : (s.chan (.mel m)).enabled <;> cases hb : intEn (s.intByte (.mel m))
  case false.true =>
    rw [enableMelodic_enable hs hb, uploadIfDirty_of_clean h]
    exact enableTail_uploads _ _ s
  case true.false => rw [enableMelodic_disable hs hb]; exact .emits rfl (by simp)
  all_goals rw [enableMelodic_stay (hs.trans hb.symm)]; exact .of_out_eq rfl

/-- Settles O24: the first transition recopies the slot and leaves it clean. It changes neither the index nor the byte
of the second channel, which then finds nothing to upload. -/
theorem sharedDirtyFlagUploadsOnce : Obligations.SharedDirtyFlagUploadsOnce := by
  intro m n s t u hne hslot hdirty hm _ hbm hbn hfirst hsecond
  cases (exec_intOf_mel m s).symm.trans hfirst
  cases (exec_intOf_mel n _).symm.trans hsecond
  have hkey (x : Chan) (hb : 128 ≤ (s.intByte x).toNat) : intEn (s.intByte x) = true :=
    (intEn_eq_le _).trans (decide_eq_true hb)
  have heffect := enableMelodic_effect (V := Set.univ) m s trivial
  have hindex : (enableMelodic m s).waveIndex n = s.waveIndex m :=
    (heffect.waveIndexes n (by simpa using hne)).trans hslot.symm
  have hclean : (enableMelodic m s).dirty ((enableMelodic m s).waveIndex n) = false := by
    rw [hindex]
    exact enableMelodic_clean hm (hkey _ hbm)
  have hbyte : (enableMelodic m s).intByte (.mel n) = s.intByte (.mel n) := by
    simp only [State.intByte, State.memRead, State.map, heffect.env]
  obtain ⟨cs, hcs⟩ := (enableMelodic_recopies hm (hkey _ hbm) hdirty).upload
  obtain ⟨ds, hds, hnone⟩ := enableMelodic_uploads_of_clean (P := fun _ _ => False) hclean
  refine ⟨?_, _, ds, hcs, List.mem_cons_self, hds, hnone⟩
  rw [enableMelodic_enabled, hbyte, hkey _ hbn]

end Sys2Proof.Machine
